-- ==== Sys2Proof/Word.lean ====
section
/-! DEFINITION. The two widths of the machine: bytes of 8 bits (R9, R51) and addresses of 16 bits (R50). -/

namespace Sys2Proof

/-- A byte: register contents, memory cells, opcode and operand bytes (00_scope.md R9). -/
abbrev Byte := BitVec 8

/-- A 16-bit address or program counter (20_memory.md R50, 10_state.md R24). -/
abbrev Word := BitVec 16

end Sys2Proof
end

