-- ==== Sys2Proof/Machine/Bytes.lean ====
section
/-! DEFINITION. Byte order and extension: the one place where two bytes become an address and back (R9, R10, R54). -/

namespace Sys2Proof.Machine

/-- The 16-bit value `(hi << 8) | lo` (R9). -/
def word (hi lo : Byte) : Word := hi ++ lo

/-- `lo(w) = w[7:0]` (R9). -/
def lo (w : Word) : Byte := w.extractLsb' 0 8

/-- `hi(w) = w[15:8]` (R9). -/
def hi (w : Word) : Byte := w.extractLsb' 8 8

/-- `zext_16(b)` (R10). -/
def zext (b : Byte) : Word := b.setWidth 16

/-- `sext_16(b)`: two's complement sign extension (R10). -/
def sext (b : Byte) : Word := b.signExtend 16

end Sys2Proof.Machine
end

