-- ==== Sys2Proof/Config.lean ====
section
/-! DEFINITION. What an implementation or platform fixes (00_scope.md R5) and the free values (`draw`, R11). -/

namespace Sys2Proof

namespace Config

/-- The `k`-th free byte: `draw(8)` of R11, "an unconstrained n-bit value chosen by nothing the program controls".
It has no body, so nothing can be proved of its value (log 4). -/
opaque drawByte : Nat → Byte

/-- The `k`-th free bit: `draw(1)` of R11 (log 4). -/
opaque drawBit : Nat → Bool

/-- What the byte at an address holds while nothing has written it: one free byte for each address, "a `draw`, not zero"
(R36, R37, D8; log 1). It has no body, so nothing can be proved of its value. -/
opaque powerOnByte : Nat → Byte

/-- Where a program loaded from outside the machine begins: what the platform puts into the reset vector (R272).
DESIGN CHOICE (log 3): the spec gives none; only `State.withFetchWord` uses it. -/
def loadAddress : Word := 0x0000#16

/-- The parameter `JmpIndirectPageWrap`, true for this part (R5, R171, D15; log 14). -/
def jmpIndirectPageWrap : Bool := true

end Config

/-- What stands at an address, as the parameter `MemoryMap` says (R5, R52, R53, D3). -/
inductive RegionKind where
  /-- Reads give the stored byte, writes store. -/
  | ram
  /-- Reads give the stored byte, writes change nothing. -/
  | rom
  /-- Reads give a draw, writes are events; `readEvents` says whether a read has side effects and is recorded. -/
  | device (readEvents : Bool)
  /-- Reads give a draw, writes change nothing. -/
  | absent
deriving DecidableEq, Repr

/-- The addresses `first` to `last` inclusive, and what stands there. -/
structure Region where
  first : Word
  last : Word
  kind : RegionKind
deriving DecidableEq, Repr

/-- The parameter `MemoryMap`: the first region that holds an address says what stands there; an address in no region
is RAM, so the empty map is the default of R5, "all 65536 bytes are RAM" (log 11). -/
abbrev MemoryMap := List Region

end Sys2Proof
end

