-- ==== Sys2Proof/Machine/State.lean ====
section
/-! DEFINITION. The state of the machine (10_state.md, `State = { ... }`), the environment's side of it (R33, R52, R53),
the reasons a step can stop, and the state after reset. -/

namespace Sys2Proof.Machine

/-- The six condition codes of P (R25). Bits 5 and 4 of the status byte have no storage (R28). -/
structure Status where
  /-- N, negative. -/
  n : Bool
  /-- V, overflow. -/
  v : Bool
  /-- D, decimal. -/
  d : Bool
  /-- I, interrupt inhibit. -/
  i : Bool
  /-- Z, zero. -/
  z : Bool
  /-- C, carry. -/
  c : Bool
deriving DecidableEq, Repr

/-- The 65536 cells of R38: the bytes that something has written, as (address, byte) pairs, the addresses strictly rising
and below 65536 (`Memory.wf`). An address not listed holds its free byte (R37; log 1). -/
abbrev Memory := List Host.Cell

/-- What the environment does at one instruction boundary (R33), and the two choices the relation of R242 leaves open
there (log 7, 8, 10). -/
structure BoundaryInput where
  /-- The level of `irq_line`. -/
  irqLine : Bool
  /-- An NMI edge since the last boundary. -/
  nmiEdge : Bool
  /-- RESET is requested. -/
  resetRequest : Bool
  /-- The requested RESET came in the middle of the instruction at PC (R250, U16; log 13). -/
  resetInside : Bool
  /-- Where R242 admits both an interrupt entry and one more instruction: true takes the entry. -/
  takeNow : Bool
  /-- Where R242 admits both vectors for a BRK run with an NMI pending: true takes the NMI vector. -/
  brkNmi : Bool
deriving DecidableEq, Repr

/-- An access handed to the environment (R52, R53): a read of a device with read side effects, with the byte the
environment supplied, or a write to a device. -/
inductive BusEvent where
  | read (addr : Word) (value : Byte)
  | write (addr : Word) (value : Byte)
deriving DecidableEq, Repr

/-- The whole state. Fields `a` to `irqLate` are the processor's (10_state.md); `irqLine` to `events` are the
environment's (R33, R52, R53); `draws` to `brkNmi` are the model's own (log 4, 8, 10). -/
@[ext]
structure State where
  /-- A, the accumulator (R20). -/
  a : Byte
  /-- X, an index register (R21). -/
  x : Byte
  /-- Y, an index register (R21). -/
  y : Byte
  /-- S, the stack pointer (R22). -/
  sp : Byte
  /-- PC, the program counter (R24). -/
  pc : Word
  /-- P, the condition codes (R25, R28). -/
  p : Status
  /-- Mem (R38). -/
  mem : Memory
  /-- `nmi_pending`, the NMI latch (R34). -/
  nmiPending : Bool
  /-- The instruction just executed was SEI or PLP and P.I was 0 before it (R242). -/
  irqLate : Bool
  /-- The present level of `irq_line` (R33). -/
  irqLine : Bool
  /-- What the environment will do at the coming boundaries, the next one first (R33; log 7). -/
  inputs : List BoundaryInput
  /-- The parameter MemoryMap (R5, R52, R53). -/
  memMap : MemoryMap
  /-- The device accesses so far, the oldest first (R52, R53). -/
  events : List BusEvent
  /-- How many free values have been taken (R11; log 4). -/
  draws : Nat
  /-- NMI was pending at the last boundary and an instruction was run instead (weak fairness, R242; log 8). -/
  nmiHeld : Bool
  /-- IRQ was asserted with I = 0 at the last boundary and an instruction was run instead (R242; log 8). -/
  irqHeld : Bool
  /-- The environment's choice for a BRK run at this boundary (R242; log 10). -/
  brkNmi : Bool
deriving DecidableEq, Repr

/-- The model-level faults, "the places where this spec declines to give the hardware's behaviour" (R231). -/
inductive Fault where
  /-- Raised by the step when the byte `opc` at `addr` is one of the 105 undefined opcodes (R95, D4). Safe: the chip goes
  on in some way the spec does not give, and nothing can be proved of a run that reaches it. -/
  | undefinedOpcode (opc : Byte) (addr : Word)
  /-- Raised by JSR when a stack byte it would write is its own third byte (R172, D22). Safe, for the same reason. -/
  | jsrOperandOnStack
deriving DecidableEq, Repr

/-- Reasons an instruction is refused. No arm of `exec` refuses: every row of the opcode table has its meaning. -/
inductive Refusal where
  /-- Raised only by an arm of `exec` whose instruction has no meaning yet. Safe: the machine stops. No arm raises it. -/
  | notModelled (mnemonic : String)
deriving DecidableEq, Repr

/-- The three outcomes of a step on this machine. -/
abbrev Result := Host.Outcome State Fault Refusal

/-- The machine right after reset (R36, R270). I = 1, `nmi_pending` = 0 and PC = Read16(0xFFFC) are the spec's; memory
lists nothing, so both bytes of the reset vector are free (R36, R37; log 1, 3). A, X, Y, S, N, V, D, Z and C,
which R36 leaves as draws, are named 0 here, DESIGN CHOICE (log 2); the RESET event inside a run draws them
(`State.resetStep`). The environment is quiet and the map is all RAM (log 7, 11). -/
def State.reset : State where
  a := 0x00#8
  x := 0x00#8
  y := 0x00#8
  sp := 0x00#8
  pc := Config.powerOnByte 0xFFFD ++ Config.powerOnByte 0xFFFC
  p := { n := false, v := false, d := false, i := true, z := false, c := false }
  mem := []
  nmiPending := false
  irqLate := false
  irqLine := false
  inputs := []
  memMap := []
  events := []
  draws := 0
  nmiHeld := false
  irqHeld := false
  brkNmi := false

end Sys2Proof.Machine
end

