-- ==== Sys2Proof/Machine/Flags.lean ====
section
/-! DEFINITION. Every flag computation: the status byte (R28 to R30), SetNZ (R11), Compare (R147), binary and decimal
addition and subtraction (R152 to R156). -/

namespace Sys2Proof.Machine

/-- `SetNZ(v)`: N from bit 7, Z when the byte is 0 (R11). -/
def setNZ (p : Status) (v : Byte) : Status :=
  { p with n := v.getLsbD 7, z := decide (v = 0#8) }

/-- `StatusByte(b)`: N V 1 b D I Z C from bit 7 to bit 0 (R28, R29). -/
def statusByte (p : Status) (b : Bool) : Byte :=
  BitVec.ofBool p.n ++ BitVec.ofBool p.v ++ 1#1 ++ BitVec.ofBool b ++
    BitVec.ofBool p.d ++ BitVec.ofBool p.i ++ BitVec.ofBool p.z ++ BitVec.ofBool p.c

/-- `SetStatus(v)`: the six flags from bits 7, 6, 3, 2, 1, 0; bits 5 and 4 are discarded (R30). -/
def setStatus (v : Byte) : Status where
  n := v.getLsbD 7
  v := v.getLsbD 6
  d := v.getLsbD 3
  i := v.getLsbD 2
  z := v.getLsbD 1
  c := v.getLsbD 0

/-- `Compare(R, M)`: C is no borrow, Z is equality, N is bit 7 of the difference; always binary (R147). -/
def compareFlags (p : Status) (r m : Byte) : Status :=
  { p with c := decide (m.toNat ≤ r.toNat), z := decide (r = m), n := (r - m).getLsbD 7 }

/-- The flags of BIT: Z from the AND, N and V from bits 7 and 6 of the memory byte (R143). -/
def bitFlags (p : Status) (a m : Byte) : Status :=
  { p with z := decide (a &&& m = 0#8), n := m.getLsbD 7, v := m.getLsbD 6 }

/-- The exact sum `a + m + c`, 0 to 511 (R152). -/
def binarySum (a m : Byte) (c : Bool) : Nat :=
  a.toNat + m.toNat + c.toNat

/-- The result byte of `AddBinary(a, m, c)` (R152). -/
def addBinaryResult (a m : Byte) (c : Bool) : Byte :=
  BitVec.ofNat 8 (binarySum a m c)

/-- The flags of `AddBinary(a, m, c)` (R152). -/
def addBinaryFlags (p : Status) (a m : Byte) (c : Bool) : Status :=
  let r := addBinaryResult a m c
  { p with
    c := decide (255 < binarySum a m c)
    v := ((a ^^^ r) &&& (m ^^^ r)).getLsbD 7
    n := r.getLsbD 7
    z := decide (r = 0#8) }

/-- A BCD byte: both halves are 0 to 9 (R153). -/
def isBcd (v : Byte) : Bool :=
  decide (v.toNat / 16 ≤ 9) && decide (v.toNat % 16 ≤ 9)

/-- `dec(v)`: the value of a BCD byte (R153). -/
def dec (v : Byte) : Nat :=
  10 * (v.toNat / 16) + v.toNat % 16

/-- `bcd(n)` for 0 to 99: the BCD byte of a value (R153). -/
def bcd (n : Nat) : Byte :=
  BitVec.ofNat 8 ((n / 10) * 16 + n % 10)

/-- The free values of one decimal ADC or SBC: N, V and Z always (R156), A and C for operands that are not BCD
(R153, R154); log 5. -/
structure DecimalDraws where
  n : Bool
  v : Bool
  z : Bool
  a : Byte
  c : Bool
deriving DecidableEq, Repr

/-- A and C of `AddDecimal(a, m, c)` (R153). -/
def addDecimal (a m : Byte) (c : Bool) (d : DecimalDraws) : Byte × Bool :=
  if isBcd a && isBcd m then
    let t := dec a + dec m + c.toNat
    (bcd (t % 100), decide (100 ≤ t))
  else (d.a, d.c)

/-- A and C of `SubDecimal(a, m, c)`: the difference, 100 added when it is negative, and no borrow (R154). -/
def subDecimal (a m : Byte) (c : Bool) (d : DecimalDraws) : Byte × Bool :=
  if isBcd a && isBcd m then
    let t : Int := (dec a : Int) - (dec m : Int) - (1 - (c.toNat : Int))
    (bcd (t % 100).toNat, decide (0 ≤ t))
  else (d.a, d.c)

/-- The flags after a decimal ADC or SBC: C as computed, N, V and Z free (R156). -/
def decimalFlags (p : Status) (c : Bool) (d : DecimalDraws) : Status :=
  { p with n := d.n, v := d.v, z := d.z, c := c }

end Sys2Proof.Machine
end

