-- ==== Sys2Proof/Machine/Memory.lean ====
section
/-! DEFINITION. The memory as data (R38): reading and writing one byte of the list of cells, its canonical form, and what
the memory map says of an address (R5, R52, R53). -/

namespace Sys2Proof.Machine

/-- `Mem[a]`: the listed byte, or the free byte that an address nothing has written holds (R37; log 1). -/
def Memory.read : Memory → Nat → Byte
  | [], a => Config.powerOnByte a
  | (k, b) :: m, a => if k = a then b else Memory.read m a

/-- `Mem[a] <- v` (R53), keeping the addresses in order. -/
def Memory.write : Memory → Nat → Byte → Memory
  | [], a, v => [(a, v)]
  | (k, b) :: m, a, v =>
    if a < k then (a, v) :: (k, b) :: m
    else if a = k then (a, v) :: m
    else (k, b) :: Memory.write m a v

/-- The canonical form from address `n` up: addresses strictly rising, at least `n`, below 65536 (R50). The listed
addresses are those that something has written; no byte is known to equal what an unlisted address reads as (log 1). -/
def Memory.wfFrom : Nat → Memory → Bool
  | _, [] => true
  | n, (k, _) :: m => decide (n ≤ k) && decide (k < 65536) && Memory.wfFrom (k + 1) m

/-- The canonical form of a memory. -/
def Memory.wf (m : Memory) : Bool := Memory.wfFrom 0 m

/-- What stands at an address (R5): the kind of the first region that holds it, RAM where none does (log 11). -/
def kindAt : MemoryMap → Word → RegionKind
  | [], _ => .ram
  | r :: rs, a => if r.first ≤ a ∧ a ≤ r.last then r.kind else kindAt rs a

end Sys2Proof.Machine
end

