-- ==== Sys2Proof/Machine/Ops.lean ====
section
/-! DEFINITION. The named operations over registers and memory: register updates, free values, MemRead and MemWrite
(R52, R53), Read16 and ReadZP16 (R11), the stack (R31), taking an exception (R176, R236) and returning from one
(R178, R239). -/

namespace Sys2Proof.Machine

/-! ### Register updates -/

/-- `A <- v` (R20). -/
def State.setA (s : State) (v : Byte) : State := { s with a := v }

/-- `X <- v` (R21). -/
def State.setX (s : State) (v : Byte) : State := { s with x := v }

/-- `Y <- v` (R21). -/
def State.setY (s : State) (v : Byte) : State := { s with y := v }

/-- `S <- v` (R22). -/
def State.setSp (s : State) (v : Byte) : State := { s with sp := v }

/-- `PC <- w` (R24). -/
def State.setPc (s : State) (w : Word) : State := { s with pc := w }

/-- The six flags at once (R25). -/
def State.setP (s : State) (p : Status) : State := { s with p := p }

/-- `PC <- (PC + length) mod 2^16`, before the instruction's own effect (R7, R24). -/
def State.advance (s : State) (length : Nat) : State := s.setPc (s.pc + BitVec.ofNat 16 length)

/-- `SetNZ(v)` on the flags of the state (R11). -/
def State.setNZ (s : State) (v : Byte) : State := s.setP (Machine.setNZ s.p v)

/-- `P.C <- c`. -/
def State.setC (s : State) (c : Bool) : State := s.setP { s.p with c := c }

/-! ### Free values -/

/-- `draw(8)`: a fresh free byte (R11; log 4). -/
def State.drawByte (s : State) : Byte × State :=
  (Config.drawByte s.draws, { s with draws := s.draws + 1 })

/-- The five free values of a decimal ADC or SBC (R153, R154, R156; log 5). -/
def State.decimalDraws (s : State) : DecimalDraws × State :=
  ({ n := Config.drawBit s.draws
     v := Config.drawBit (s.draws + 1)
     z := Config.drawBit (s.draws + 2)
     a := Config.drawByte (s.draws + 3)
     c := Config.drawBit (s.draws + 4) },
   { s with draws := s.draws + 5 })

/-! ### Memory -/

/-- `Mem[a]`: the stored byte, whatever stands at the address (R38). -/
def State.peek (s : State) (a : Word) : Byte := s.mem.read a.toNat

/-- What the memory map says stands at an address (R5). -/
def State.kindAt (s : State) (a : Word) : RegionKind := Machine.kindAt s.memMap a

/-- `MemRead(a, 1)` (R52): the stored byte of RAM or ROM; a fresh draw of a device or of nothing, recorded for the
environment when the device says its reads have side effects. A read never faults. -/
def State.memRead (s : State) (a : Word) : Byte × State :=
  match s.kindAt a with
  | .ram | .rom => (s.peek a, s)
  | .absent => s.drawByte
  | .device readEvents =>
    let r := s.drawByte
    (r.1, if readEvents then { r.2 with events := r.2.events ++ [.read a r.1] } else r.2)

/-- `MemWrite(a, 1, v)` (R53): RAM stores, ROM and nothing do not, a device's write is an event. A write never faults. -/
def State.memWrite (s : State) (a : Word) (v : Byte) : State :=
  match s.kindAt a with
  | .ram => { s with mem := s.mem.write a.toNat v }
  | .rom | .absent => s
  | .device _ => { s with events := s.events ++ [.write a v] }

/-- `Read16(a)`: low byte at `a`, high byte at `a + 1` modulo 2^16 (R11, R54). -/
def State.read16 (s : State) (a : Word) : Word × State :=
  let l := s.memRead a
  let h := l.2.memRead (a + 1)
  (word h.1 l.1, h.2)

/-- `ReadZP16(z)`: both bytes from page 0, the high one at `z + 1` modulo 256 (R11, R118, R119). -/
def State.readZp16 (s : State) (z : Byte) : Word × State :=
  let l := s.memRead (zext z)
  let h := l.2.memRead (zext (z + 1))
  (word h.1 l.1, h.2)

/-! ### The stack -/

/-- The stack address `0x0100 + S`, inside page 1 (R31). -/
def stackAddr (sp : Byte) : Word := 0x0100#16 + zext sp

/-- `Push(v)`: the byte is written where S points, then S is decremented (R31). -/
def State.push (s : State) (v : Byte) : State :=
  let s1 := s.memWrite (stackAddr s.sp) v
  s1.setSp (s1.sp - 1)

/-- `Pull()`: S is incremented, then the byte there is read (R31). -/
def State.pull (s : State) : Byte × State :=
  let s1 := s.setSp (s.sp + 1)
  s1.memRead (stackAddr s1.sp)

/-- A 16-bit value pushed high byte first, so that it lies low byte first (R54, R172). -/
def State.pushWord (s : State) (w : Word) : State :=
  (s.push (hi w)).push (lo w)

/-- A 16-bit value pulled low byte first (R177, R178). -/
def State.pullWord (s : State) : Word × State :=
  let l := s.pull
  let h := l.2.pull
  (word h.1 l.1, h.2)

/-! ### Interrupt recognition -/

/-- What R242 notes of SEI and PLP: IRQ is still admitted at the next boundary when I was 0 before the instruction
(log 9). -/
def lateIrq (iBefore : Bool) (s : State) : State := { s with irqLate := !iBefore }

/-! ### Exceptions -/

/-- The NMI vector (R60, R237). -/
def nmiVector : Word := 0xFFFA#16

/-- The RESET vector (R60, R237). -/
def resetVector : Word := 0xFFFC#16

/-- The vector IRQ and BRK share (R60, R237). -/
def irqVector : Word := 0xFFFE#16

/-- The latch is cleared when the NMI vector is taken (R34, R236), and with it what fairness remembers of it. -/
def State.clearNmi (s : State) (vector : Word) : State :=
  if vector = nmiVector then { s with nmiPending := false, nmiHeld := false } else s

/-- TAKING AN EXCEPTION, the sequence BRK, NMI and IRQ share (R176, R236): the return address is pushed high byte first,
then the status byte with bit 4 = `brk`; then I is set, and nothing else in P; the latch is cleared if this is the NMI
vector; PC is read from the vector, low byte first. There is no mode to change (R244). -/
def State.takeException (s : State) (ret : Word) (brk : Bool) (vector : Word) : State :=
  let s1 := (s.pushWord ret).push (statusByte s.p brk)
  let s2 := (s1.setP { s1.p with i := true }).clearNmi vector
  let v := s2.read16 vector
  v.2.setPc v.1

/-- RETURNING FROM AN EXCEPTION (R178, R239): the six flags from the pulled byte, then PC low, then PC high; execution
continues at exactly the pulled address. -/
def State.returnFromException (s : State) : State :=
  let f := s.pull
  let w := (f.2.setP (setStatus f.1)).pullWord
  w.2.setPc w.1

end Sys2Proof.Machine
end

