-- ==== Sys2Proof/Syntax.lean ====
section
/-! DEFINITION. The syntax: the 56 mnemonics, the 13 addressing modes with their operands, and one constructor for each
of the 151 rows of spec/opcode_table.json (R89, R125). -/

namespace Sys2Proof

/-- The 56 mnemonics of the card (R89, R98). -/
inductive Mnemonic where
  | lda | sta | ldx | stx | ldy | sty
  | and | ora | eor | bit | cmp | cpx | cpy
  | adc | sbc
  | asl | lsr | rol | ror | inc | dec
  | jmp | jsr
  | brk | rts | rti | php | plp | pha | pla
  | inx | dex | iny | dey | tax | txa | tay | tya | tsx | txs | sed | cld | sei | cli | sec | clc | clv | nop
  | beq | bne | bmi | bpl | bcc | bcs | bvc | bvs
deriving DecidableEq, Repr

/-- The addressing modes, by the ids of spec/opcode_table.json (R82). -/
inductive Mode where
  | imp | acc | imm | zp | zpx | zpy | indx | indy | rel | abs | absx | absy | ind
deriving DecidableEq, Repr

/-- The eight modes that have an effective address, with their operand bytes (R112 to R119). -/
inductive MemForm where
  /-- Z.PAGE, R112. -/
  | zp (zp : Byte)
  /-- Z.PAGE,X, R113. -/
  | zpx (zp : Byte)
  /-- Z.PAGE,Y, R114. -/
  | zpy (zp : Byte)
  /-- ABS, R115. -/
  | abs (addr : Word)
  /-- ABS,X, R116. -/
  | absx (addr : Word)
  /-- ABS,Y, R117. -/
  | absy (addr : Word)
  /-- (IND,X), R118. -/
  | indx (zp : Byte)
  /-- (IND,Y), R119. -/
  | indy (zp : Byte)
deriving DecidableEq, Repr

/-- A data operand: the immediate byte or the byte at an effective address (R110, R111). -/
inductive Source where
  | imm (imm : Byte)
  | mem (m : MemForm)
deriving DecidableEq, Repr

/-- The operand of an instruction, whatever its mode. -/
inductive Operand where
  /-- IMPLIED: no operand (R121). -/
  | imp
  /-- ACCUM.: the operand is A (R120). -/
  | acc
  /-- A data operand, read or written (R110, R111 to R119). For JMP and JSR the mode ABS names a target (R115, R170). -/
  | data (src : Source)
  /-- INDIRECT: the address of a pointer (R123). -/
  | ind (ptr : Word)
  /-- REL: a signed displacement (R122). -/
  | rel (disp : Byte)
deriving DecidableEq, Repr

def MemForm.mode : MemForm → Mode
  | .zp _ => .zp | .zpx _ => .zpx | .zpy _ => .zpy | .abs _ => .abs
  | .absx _ => .absx | .absy _ => .absy | .indx _ => .indx | .indy _ => .indy

/-- The addressing mode an operand belongs to. -/
def Operand.mode : Operand → Mode
  | .imp => .imp
  | .acc => .acc
  | .data (.imm _) => .imm
  | .data (.mem m) => m.mode
  | .ind _ => .ind
  | .rel _ => .rel

/-- One constructor for each row of spec/opcode_table.json: the mnemonic, then the mode, with the operand the mode
gives it (R83, R125). -/
inductive Instr where
  -- LDA, R130
  | ldaImm (imm : Byte)
  | ldaZp (zp : Byte)
  | ldaZpx (zp : Byte)
  | ldaAbs (addr : Word)
  | ldaAbsx (addr : Word)
  | ldaAbsy (addr : Word)
  | ldaIndx (zp : Byte)
  | ldaIndy (zp : Byte)
  -- STA, R131
  | staZp (zp : Byte)
  | staZpx (zp : Byte)
  | staAbs (addr : Word)
  | staAbsx (addr : Word)
  | staAbsy (addr : Word)
  | staIndx (zp : Byte)
  | staIndy (zp : Byte)
  -- LDX, R132
  | ldxImm (imm : Byte)
  | ldxZp (zp : Byte)
  | ldxZpy (zp : Byte)
  | ldxAbs (addr : Word)
  | ldxAbsy (addr : Word)
  -- STX, R133
  | stxZp (zp : Byte)
  | stxZpy (zp : Byte)
  | stxAbs (addr : Word)
  -- LDY, R134
  | ldyImm (imm : Byte)
  | ldyZp (zp : Byte)
  | ldyZpx (zp : Byte)
  | ldyAbs (addr : Word)
  | ldyAbsx (addr : Word)
  -- STY, R135
  | styZp (zp : Byte)
  | styZpx (zp : Byte)
  | styAbs (addr : Word)
  -- AND, R140
  | andImm (imm : Byte)
  | andZp (zp : Byte)
  | andZpx (zp : Byte)
  | andAbs (addr : Word)
  | andAbsx (addr : Word)
  | andAbsy (addr : Word)
  | andIndx (zp : Byte)
  | andIndy (zp : Byte)
  -- ORA, R141
  | oraImm (imm : Byte)
  | oraZp (zp : Byte)
  | oraZpx (zp : Byte)
  | oraAbs (addr : Word)
  | oraAbsx (addr : Word)
  | oraAbsy (addr : Word)
  | oraIndx (zp : Byte)
  | oraIndy (zp : Byte)
  -- EOR, R142
  | eorImm (imm : Byte)
  | eorZp (zp : Byte)
  | eorZpx (zp : Byte)
  | eorAbs (addr : Word)
  | eorAbsx (addr : Word)
  | eorAbsy (addr : Word)
  | eorIndx (zp : Byte)
  | eorIndy (zp : Byte)
  -- BIT, R143
  | bitZp (zp : Byte)
  | bitAbs (addr : Word)
  -- CMP, R144
  | cmpImm (imm : Byte)
  | cmpZp (zp : Byte)
  | cmpZpx (zp : Byte)
  | cmpAbs (addr : Word)
  | cmpAbsx (addr : Word)
  | cmpAbsy (addr : Word)
  | cmpIndx (zp : Byte)
  | cmpIndy (zp : Byte)
  -- CPX, R145
  | cpxImm (imm : Byte)
  | cpxZp (zp : Byte)
  | cpxAbs (addr : Word)
  -- CPY, R146
  | cpyImm (imm : Byte)
  | cpyZp (zp : Byte)
  | cpyAbs (addr : Word)
  -- ADC, R150
  | adcImm (imm : Byte)
  | adcZp (zp : Byte)
  | adcZpx (zp : Byte)
  | adcAbs (addr : Word)
  | adcAbsx (addr : Word)
  | adcAbsy (addr : Word)
  | adcIndx (zp : Byte)
  | adcIndy (zp : Byte)
  -- SBC, R151
  | sbcImm (imm : Byte)
  | sbcZp (zp : Byte)
  | sbcZpx (zp : Byte)
  | sbcAbs (addr : Word)
  | sbcAbsx (addr : Word)
  | sbcAbsy (addr : Word)
  | sbcIndx (zp : Byte)
  | sbcIndy (zp : Byte)
  -- ASL, R160
  | aslZp (zp : Byte)
  | aslZpx (zp : Byte)
  | aslAbs (addr : Word)
  | aslAbsx (addr : Word)
  | aslAcc
  -- LSR, R161
  | lsrZp (zp : Byte)
  | lsrZpx (zp : Byte)
  | lsrAbs (addr : Word)
  | lsrAbsx (addr : Word)
  | lsrAcc
  -- ROL, R162
  | rolZp (zp : Byte)
  | rolZpx (zp : Byte)
  | rolAbs (addr : Word)
  | rolAbsx (addr : Word)
  | rolAcc
  -- ROR, R163
  | rorZp (zp : Byte)
  | rorZpx (zp : Byte)
  | rorAbs (addr : Word)
  | rorAbsx (addr : Word)
  | rorAcc
  -- INC, R164
  | incZp (zp : Byte)
  | incZpx (zp : Byte)
  | incAbs (addr : Word)
  | incAbsx (addr : Word)
  -- DEC, R165
  | decZp (zp : Byte)
  | decZpx (zp : Byte)
  | decAbs (addr : Word)
  | decAbsx (addr : Word)
  -- JMP, R170
  | jmpAbs (addr : Word)
  | jmpInd (ptr : Word)
  -- JSR, R172
  | jsr (addr : Word)
  -- BRK, R176
  | brk
  -- RTS, R177
  | rts
  -- RTI, R178
  | rti
  -- PHP, R179
  | php
  -- PLP, R180
  | plp
  -- PHA, R181
  | pha
  -- PLA, R182
  | pla
  -- INX, R190
  | inx
  -- DEX, R191
  | dex
  -- INY, R192
  | iny
  -- DEY, R193
  | dey
  -- TAX, R194
  | tax
  -- TXA, R195
  | txa
  -- TAY, R196
  | tay
  -- TYA, R197
  | tya
  -- TSX, R198
  | tsx
  -- TXS, R199
  | txs
  -- SED, R200
  | sed
  -- CLD, R201
  | cld
  -- SEI, R202
  | sei
  -- CLI, R203
  | cli
  -- SEC, R204
  | sec
  -- CLC, R205
  | clc
  -- CLV, R206
  | clv
  -- NOP, R207
  | nop
  -- BEQ, R217
  | beq (disp : Byte)
  -- BNE, R218
  | bne (disp : Byte)
  -- BMI, R219
  | bmi (disp : Byte)
  -- BPL, R220
  | bpl (disp : Byte)
  -- BCC, R221
  | bcc (disp : Byte)
  -- BCS, R222
  | bcs (disp : Byte)
  -- BVC, R223
  | bvc (disp : Byte)
  -- BVS, R224
  | bvs (disp : Byte)
deriving DecidableEq, Repr

/-- The mnemonic of an instruction (R89). -/
def Instr.mnemonic : Instr → Mnemonic
  | .ldaImm _ | .ldaZp _ | .ldaZpx _ | .ldaAbs _ | .ldaAbsx _ | .ldaAbsy _ | .ldaIndx _ | .ldaIndy _ => .lda
  | .staZp _ | .staZpx _ | .staAbs _ | .staAbsx _ | .staAbsy _ | .staIndx _ | .staIndy _ => .sta
  | .ldxImm _ | .ldxZp _ | .ldxZpy _ | .ldxAbs _ | .ldxAbsy _ => .ldx
  | .stxZp _ | .stxZpy _ | .stxAbs _ => .stx
  | .ldyImm _ | .ldyZp _ | .ldyZpx _ | .ldyAbs _ | .ldyAbsx _ => .ldy
  | .styZp _ | .styZpx _ | .styAbs _ => .sty
  | .andImm _ | .andZp _ | .andZpx _ | .andAbs _ | .andAbsx _ | .andAbsy _ | .andIndx _ | .andIndy _ => .and
  | .oraImm _ | .oraZp _ | .oraZpx _ | .oraAbs _ | .oraAbsx _ | .oraAbsy _ | .oraIndx _ | .oraIndy _ => .ora
  | .eorImm _ | .eorZp _ | .eorZpx _ | .eorAbs _ | .eorAbsx _ | .eorAbsy _ | .eorIndx _ | .eorIndy _ => .eor
  | .bitZp _ | .bitAbs _ => .bit
  | .cmpImm _ | .cmpZp _ | .cmpZpx _ | .cmpAbs _ | .cmpAbsx _ | .cmpAbsy _ | .cmpIndx _ | .cmpIndy _ => .cmp
  | .cpxImm _ | .cpxZp _ | .cpxAbs _ => .cpx
  | .cpyImm _ | .cpyZp _ | .cpyAbs _ => .cpy
  | .adcImm _ | .adcZp _ | .adcZpx _ | .adcAbs _ | .adcAbsx _ | .adcAbsy _ | .adcIndx _ | .adcIndy _ => .adc
  | .sbcImm _ | .sbcZp _ | .sbcZpx _ | .sbcAbs _ | .sbcAbsx _ | .sbcAbsy _ | .sbcIndx _ | .sbcIndy _ => .sbc
  | .aslZp _ | .aslZpx _ | .aslAbs _ | .aslAbsx _ | .aslAcc => .asl
  | .lsrZp _ | .lsrZpx _ | .lsrAbs _ | .lsrAbsx _ | .lsrAcc => .lsr
  | .rolZp _ | .rolZpx _ | .rolAbs _ | .rolAbsx _ | .rolAcc => .rol
  | .rorZp _ | .rorZpx _ | .rorAbs _ | .rorAbsx _ | .rorAcc => .ror
  | .incZp _ | .incZpx _ | .incAbs _ | .incAbsx _ => .inc
  | .decZp _ | .decZpx _ | .decAbs _ | .decAbsx _ => .dec
  | .jmpAbs _ | .jmpInd _ => .jmp
  | .jsr _ => .jsr
  | .brk => .brk
  | .rts => .rts
  | .rti => .rti
  | .php => .php
  | .plp => .plp
  | .pha => .pha
  | .pla => .pla
  | .inx => .inx
  | .dex => .dex
  | .iny => .iny
  | .dey => .dey
  | .tax => .tax
  | .txa => .txa
  | .tay => .tay
  | .tya => .tya
  | .tsx => .tsx
  | .txs => .txs
  | .sed => .sed
  | .cld => .cld
  | .sei => .sei
  | .cli => .cli
  | .sec => .sec
  | .clc => .clc
  | .clv => .clv
  | .nop => .nop
  | .beq _ => .beq
  | .bne _ => .bne
  | .bmi _ => .bmi
  | .bpl _ => .bpl
  | .bcc _ => .bcc
  | .bcs _ => .bcs
  | .bvc _ => .bvc
  | .bvs _ => .bvs

/-- The operand of an instruction, with its addressing mode (R125). -/
def Instr.operand : Instr → Operand
  | .ldaImm imm => .data (.imm imm)
  | .ldaZp zp => .data (.mem (.zp zp))
  | .ldaZpx zp => .data (.mem (.zpx zp))
  | .ldaAbs addr => .data (.mem (.abs addr))
  | .ldaAbsx addr => .data (.mem (.absx addr))
  | .ldaAbsy addr => .data (.mem (.absy addr))
  | .ldaIndx zp => .data (.mem (.indx zp))
  | .ldaIndy zp => .data (.mem (.indy zp))
  | .staZp zp => .data (.mem (.zp zp))
  | .staZpx zp => .data (.mem (.zpx zp))
  | .staAbs addr => .data (.mem (.abs addr))
  | .staAbsx addr => .data (.mem (.absx addr))
  | .staAbsy addr => .data (.mem (.absy addr))
  | .staIndx zp => .data (.mem (.indx zp))
  | .staIndy zp => .data (.mem (.indy zp))
  | .ldxImm imm => .data (.imm imm)
  | .ldxZp zp => .data (.mem (.zp zp))
  | .ldxZpy zp => .data (.mem (.zpy zp))
  | .ldxAbs addr => .data (.mem (.abs addr))
  | .ldxAbsy addr => .data (.mem (.absy addr))
  | .stxZp zp => .data (.mem (.zp zp))
  | .stxZpy zp => .data (.mem (.zpy zp))
  | .stxAbs addr => .data (.mem (.abs addr))
  | .ldyImm imm => .data (.imm imm)
  | .ldyZp zp => .data (.mem (.zp zp))
  | .ldyZpx zp => .data (.mem (.zpx zp))
  | .ldyAbs addr => .data (.mem (.abs addr))
  | .ldyAbsx addr => .data (.mem (.absx addr))
  | .styZp zp => .data (.mem (.zp zp))
  | .styZpx zp => .data (.mem (.zpx zp))
  | .styAbs addr => .data (.mem (.abs addr))
  | .andImm imm => .data (.imm imm)
  | .andZp zp => .data (.mem (.zp zp))
  | .andZpx zp => .data (.mem (.zpx zp))
  | .andAbs addr => .data (.mem (.abs addr))
  | .andAbsx addr => .data (.mem (.absx addr))
  | .andAbsy addr => .data (.mem (.absy addr))
  | .andIndx zp => .data (.mem (.indx zp))
  | .andIndy zp => .data (.mem (.indy zp))
  | .oraImm imm => .data (.imm imm)
  | .oraZp zp => .data (.mem (.zp zp))
  | .oraZpx zp => .data (.mem (.zpx zp))
  | .oraAbs addr => .data (.mem (.abs addr))
  | .oraAbsx addr => .data (.mem (.absx addr))
  | .oraAbsy addr => .data (.mem (.absy addr))
  | .oraIndx zp => .data (.mem (.indx zp))
  | .oraIndy zp => .data (.mem (.indy zp))
  | .eorImm imm => .data (.imm imm)
  | .eorZp zp => .data (.mem (.zp zp))
  | .eorZpx zp => .data (.mem (.zpx zp))
  | .eorAbs addr => .data (.mem (.abs addr))
  | .eorAbsx addr => .data (.mem (.absx addr))
  | .eorAbsy addr => .data (.mem (.absy addr))
  | .eorIndx zp => .data (.mem (.indx zp))
  | .eorIndy zp => .data (.mem (.indy zp))
  | .bitZp zp => .data (.mem (.zp zp))
  | .bitAbs addr => .data (.mem (.abs addr))
  | .cmpImm imm => .data (.imm imm)
  | .cmpZp zp => .data (.mem (.zp zp))
  | .cmpZpx zp => .data (.mem (.zpx zp))
  | .cmpAbs addr => .data (.mem (.abs addr))
  | .cmpAbsx addr => .data (.mem (.absx addr))
  | .cmpAbsy addr => .data (.mem (.absy addr))
  | .cmpIndx zp => .data (.mem (.indx zp))
  | .cmpIndy zp => .data (.mem (.indy zp))
  | .cpxImm imm => .data (.imm imm)
  | .cpxZp zp => .data (.mem (.zp zp))
  | .cpxAbs addr => .data (.mem (.abs addr))
  | .cpyImm imm => .data (.imm imm)
  | .cpyZp zp => .data (.mem (.zp zp))
  | .cpyAbs addr => .data (.mem (.abs addr))
  | .adcImm imm => .data (.imm imm)
  | .adcZp zp => .data (.mem (.zp zp))
  | .adcZpx zp => .data (.mem (.zpx zp))
  | .adcAbs addr => .data (.mem (.abs addr))
  | .adcAbsx addr => .data (.mem (.absx addr))
  | .adcAbsy addr => .data (.mem (.absy addr))
  | .adcIndx zp => .data (.mem (.indx zp))
  | .adcIndy zp => .data (.mem (.indy zp))
  | .sbcImm imm => .data (.imm imm)
  | .sbcZp zp => .data (.mem (.zp zp))
  | .sbcZpx zp => .data (.mem (.zpx zp))
  | .sbcAbs addr => .data (.mem (.abs addr))
  | .sbcAbsx addr => .data (.mem (.absx addr))
  | .sbcAbsy addr => .data (.mem (.absy addr))
  | .sbcIndx zp => .data (.mem (.indx zp))
  | .sbcIndy zp => .data (.mem (.indy zp))
  | .aslZp zp => .data (.mem (.zp zp))
  | .aslZpx zp => .data (.mem (.zpx zp))
  | .aslAbs addr => .data (.mem (.abs addr))
  | .aslAbsx addr => .data (.mem (.absx addr))
  | .aslAcc => .acc
  | .lsrZp zp => .data (.mem (.zp zp))
  | .lsrZpx zp => .data (.mem (.zpx zp))
  | .lsrAbs addr => .data (.mem (.abs addr))
  | .lsrAbsx addr => .data (.mem (.absx addr))
  | .lsrAcc => .acc
  | .rolZp zp => .data (.mem (.zp zp))
  | .rolZpx zp => .data (.mem (.zpx zp))
  | .rolAbs addr => .data (.mem (.abs addr))
  | .rolAbsx addr => .data (.mem (.absx addr))
  | .rolAcc => .acc
  | .rorZp zp => .data (.mem (.zp zp))
  | .rorZpx zp => .data (.mem (.zpx zp))
  | .rorAbs addr => .data (.mem (.abs addr))
  | .rorAbsx addr => .data (.mem (.absx addr))
  | .rorAcc => .acc
  | .incZp zp => .data (.mem (.zp zp))
  | .incZpx zp => .data (.mem (.zpx zp))
  | .incAbs addr => .data (.mem (.abs addr))
  | .incAbsx addr => .data (.mem (.absx addr))
  | .decZp zp => .data (.mem (.zp zp))
  | .decZpx zp => .data (.mem (.zpx zp))
  | .decAbs addr => .data (.mem (.abs addr))
  | .decAbsx addr => .data (.mem (.absx addr))
  | .jmpAbs addr => .data (.mem (.abs addr))
  | .jmpInd ptr => .ind ptr
  | .jsr addr => .data (.mem (.abs addr))
  | .brk => .imp
  | .rts => .imp
  | .rti => .imp
  | .php => .imp
  | .plp => .imp
  | .pha => .imp
  | .pla => .imp
  | .inx => .imp
  | .dex => .imp
  | .iny => .imp
  | .dey => .imp
  | .tax => .imp
  | .txa => .imp
  | .tay => .imp
  | .tya => .imp
  | .tsx => .imp
  | .txs => .imp
  | .sed => .imp
  | .cld => .imp
  | .sei => .imp
  | .cli => .imp
  | .sec => .imp
  | .clc => .imp
  | .clv => .imp
  | .nop => .imp
  | .beq disp => .rel disp
  | .bne disp => .rel disp
  | .bmi disp => .rel disp
  | .bpl disp => .rel disp
  | .bcc disp => .rel disp
  | .bcs disp => .rel disp
  | .bvc disp => .rel disp
  | .bvs disp => .rel disp

end Sys2Proof
end

