-- ==== Sys2Proof/Machine/Operands.lean ====
section
/-! DEFINITION. Every operand form (40_addressing_modes.md): the effective address of each mode, reading a data operand,
reading and rewriting the operand of a read-modify-write instruction, and the addresses an instruction stores to. -/

namespace Sys2Proof.Machine

/-- The length in bytes of an instruction with this memory operand (R82). -/
def memLength : MemForm → Nat
  | .zp _ | .zpx _ | .zpy _ | .indx _ | .indy _ => 2
  | .abs _ | .absx _ | .absy _ => 3

/-- The length in bytes of an instruction with this data operand (R82). -/
def sourceLength : Source → Nat
  | .imm _ => 2
  | .mem m => memLength m

/-- The effective address (R112 to R119), with the state after the pointer reads of (IND,X) and (IND,Y), which are two
ordinary byte reads (R118). -/
def effAddr : MemForm → State → Word × State
  | .zp b, s => (zext b, s)
  | .zpx b, s => (zext (b + s.x), s)
  | .zpy b, s => (zext (b + s.y), s)
  | .abs w, s => (w, s)
  | .absx w, s => (w + zext s.x, s)
  | .absy w, s => (w + zext s.y, s)
  | .indx b, s => s.readZp16 (b + s.x)
  | .indy b, s =>
    let r := s.readZp16 b
    (r.1 + zext s.y, r.2)

/-- The byte at the effective address (R110, "read"). -/
def readMem (m : MemForm) (s : State) : Byte × State :=
  let e := effAddr m s
  e.2.memRead e.1

/-- `Operand(mode)`: the immediate byte, or the byte at the effective address (R110, R111). -/
def readSource : Source → State → Byte × State
  | .imm b, s => (b, s)
  | .mem m, s => readMem m s

/-- `MemWrite(EA(mode), 1, v)` (R110, "write"). -/
def writeMem (m : MemForm) (v : Byte) (s : State) : State :=
  let e := effAddr m s
  e.2.memWrite e.1 v

/-- The memory case of `RMW(mode, f)`: the effective address computed once, one read, one write of the new byte to the
same address; answers the old byte (R59, R110, R166). -/
def modifyMem (m : MemForm) (f : Byte → Byte) (s : State) : Byte × State :=
  let e := effAddr m s
  let r := e.2.memRead e.1
  (r.1, r.2.memWrite e.1 (f r.1))

/-- The ACCUM. case of `RMW(mode, f)`: answers the old A (R120, R166). -/
def modifyAcc (f : Byte → Byte) (s : State) : Byte × State :=
  (s.a, s.setA (f s.a))

/-- The operand of a read-modify-write instruction: A or a memory byte (R166). -/
inductive Place where
  | acc
  | mem (m : MemForm)
deriving DecidableEq, Repr

/-- The length in bytes of an instruction with this operand (R82). -/
def placeLength : Place → Nat
  | .acc => 1
  | .mem m => memLength m

/-- `RMW(mode, f)`: answers the old byte (R166). -/
def modifyPlace : Place → (Byte → Byte) → State → Byte × State
  | .acc, f, s => modifyAcc f s
  | .mem m, f, s => modifyMem m f s

/-- An indexed address crosses a page when its high byte differs from the high byte of the unindexed base (R124). -/
def pageCrossed (base : Word) (index : Byte) : Bool :=
  decide (hi (base + zext index) ≠ hi base)

/-- The addresses an instruction writes with MemWrite when it executes in `s` (R110: "write" and "read-modify-write";
R172, R176, R179, R181: the pushes), computed as the meanings compute them. -/
def storesTo (i : Instr) (s : State) : List Word :=
  match i.mnemonic, i.operand with
  | .sta, .data (.mem m) | .stx, .data (.mem m) | .sty, .data (.mem m)
  | .asl, .data (.mem m) | .lsr, .data (.mem m) | .rol, .data (.mem m) | .ror, .data (.mem m)
  | .inc, .data (.mem m) | .dec, .data (.mem m) => [(effAddr m (s.advance (memLength m))).1]
  | .jsr, _ => [stackAddr s.sp, stackAddr (s.sp - 1)]
  | .brk, _ => [stackAddr s.sp, stackAddr (s.sp - 1), stackAddr (s.sp - 2)]
  | .php, _ | .pha, _ => [stackAddr s.sp]
  | _, _ => []

end Sys2Proof.Machine
end

