-- ==== Sys2Proof/Machine/Arithmetic.lean ====
section
/-! DEFINITION. Arithmetic, binary and decimal: ADC SBC (43_arithmetic.md, R150 to R156).
In every rule PC has already been advanced past the instruction (R7), so each meaning advances it first. -/

namespace Sys2Proof.Machine

/-- `AddBinary(a, m, c)` into A and the flags N, V, Z, C (R152). -/
def State.addBinary (s : State) (m : Byte) : State :=
  (s.setA (addBinaryResult s.a m s.p.c)).setP (addBinaryFlags s.p s.a m s.p.c)

/-- A decimal result and its carry into A and C, with N, V and Z free (R156). -/
def State.setDecimal (s : State) (r : Byte × Bool) (d : DecimalDraws) : State :=
  (s.setA r.1).setP (decimalFlags s.p r.2 d)

/-- ADC: binary when D is 0, decimal when D is 1 (R150). -/
def opAdc (src : Source) (s : State) : State :=
  let m := readSource src (s.advance (sourceLength src))
  if m.2.p.d then
    let d := m.2.decimalDraws
    d.2.setDecimal (addDecimal d.2.a m.1 d.2.p.c d.1) d.1
  else m.2.addBinary m.1

/-- SBC: binary as the addition of the complement when D is 0, decimal when D is 1 (R151). -/
def opSbc (src : Source) (s : State) : State :=
  let m := readSource src (s.advance (sourceLength src))
  if m.2.p.d then
    let d := m.2.decimalDraws
    d.2.setDecimal (subDecimal d.2.a m.1 d.2.p.c d.1) d.1
  else m.2.addBinary (m.1 ^^^ 0xFF#8)

/-- ADC IMM, opcode 69 (R150, R111). -/
def execAdcImm (imm : Byte) (s : State) : Result := .next (opAdc (.imm imm) s)

/-- ADC Z.PAGE, opcode 65 (R150, R112). -/
def execAdcZp (zp : Byte) (s : State) : Result := .next (opAdc (.mem (.zp zp)) s)

/-- ADC Z.PAGE,X, opcode 75 (R150, R113). -/
def execAdcZpx (zp : Byte) (s : State) : Result := .next (opAdc (.mem (.zpx zp)) s)

/-- ADC ABS, opcode 6D (R150, R115). -/
def execAdcAbs (addr : Word) (s : State) : Result := .next (opAdc (.mem (.abs addr)) s)

/-- ADC ABS,X, opcode 7D (R150, R116). -/
def execAdcAbsx (addr : Word) (s : State) : Result := .next (opAdc (.mem (.absx addr)) s)

/-- ADC ABS,Y, opcode 79 (R150, R117). -/
def execAdcAbsy (addr : Word) (s : State) : Result := .next (opAdc (.mem (.absy addr)) s)

/-- ADC (IND,X), opcode 61 (R150, R118). -/
def execAdcIndx (zp : Byte) (s : State) : Result := .next (opAdc (.mem (.indx zp)) s)

/-- ADC (IND,Y), opcode 71 (R150, R119). -/
def execAdcIndy (zp : Byte) (s : State) : Result := .next (opAdc (.mem (.indy zp)) s)

/-- SBC IMM, opcode E9 (R151, R111). -/
def execSbcImm (imm : Byte) (s : State) : Result := .next (opSbc (.imm imm) s)

/-- SBC Z.PAGE, opcode E5 (R151, R112). -/
def execSbcZp (zp : Byte) (s : State) : Result := .next (opSbc (.mem (.zp zp)) s)

/-- SBC Z.PAGE,X, opcode F5 (R151, R113). -/
def execSbcZpx (zp : Byte) (s : State) : Result := .next (opSbc (.mem (.zpx zp)) s)

/-- SBC ABS, opcode ED (R151, R115). -/
def execSbcAbs (addr : Word) (s : State) : Result := .next (opSbc (.mem (.abs addr)) s)

/-- SBC ABS,X, opcode FD (R151, R116). -/
def execSbcAbsx (addr : Word) (s : State) : Result := .next (opSbc (.mem (.absx addr)) s)

/-- SBC ABS,Y, opcode F9 (R151, R117). -/
def execSbcAbsy (addr : Word) (s : State) : Result := .next (opSbc (.mem (.absy addr)) s)

/-- SBC (IND,X), opcode E1 (R151, R118). -/
def execSbcIndx (zp : Byte) (s : State) : Result := .next (opSbc (.mem (.indx zp)) s)

/-- SBC (IND,Y), opcode F1 (R151, R119). -/
def execSbcIndy (zp : Byte) (s : State) : Result := .next (opSbc (.mem (.indy zp)) s)

end Sys2Proof.Machine
end

