-- ==== Sys2Proof/Machine/Branch.lean ====
section
/-! DEFINITION. Conditional branches: BEQ BNE BMI BPL BCC BCS BVC BVS (48_branch.md, R216 to R224).
In every rule PC has already been advanced past the instruction (R7), so each meaning advances it first. -/

namespace Sys2Proof.Machine

/-- `Branch(cond)`: relative to the address after the branch, modulo 2^16; nothing but PC changes (R122, R216). -/
def opBranch (cond : Bool) (disp : Byte) (s : State) : State :=
  let s1 := s.advance 2
  if cond then s1.setPc (s1.pc + sext disp) else s1

/-- BEQ REL, opcode F0 (R217, R122). -/
def execBeq (disp : Byte) (s : State) : Result := .next (opBranch s.p.z disp s)

/-- BNE REL, opcode D0 (R218, R122). -/
def execBne (disp : Byte) (s : State) : Result := .next (opBranch (!s.p.z) disp s)

/-- BMI REL, opcode 30 (R219, R122). -/
def execBmi (disp : Byte) (s : State) : Result := .next (opBranch s.p.n disp s)

/-- BPL REL, opcode 10 (R220, R122). -/
def execBpl (disp : Byte) (s : State) : Result := .next (opBranch (!s.p.n) disp s)

/-- BCC REL, opcode 90 (R221, R122). -/
def execBcc (disp : Byte) (s : State) : Result := .next (opBranch (!s.p.c) disp s)

/-- BCS REL, opcode B0 (R222, R122). -/
def execBcs (disp : Byte) (s : State) : Result := .next (opBranch s.p.c disp s)

/-- BVC REL, opcode 50 (R223, R122). -/
def execBvc (disp : Byte) (s : State) : Result := .next (opBranch (!s.p.v) disp s)

/-- BVS REL, opcode 70 (R224, R122). -/
def execBvs (disp : Byte) (s : State) : Result := .next (opBranch s.p.v disp s)

end Sys2Proof.Machine
end

