-- ==== Sys2Proof/Machine/Jump.lean ====
section
/-! DEFINITION. Jump and jump to subroutine: JMP JSR (45_jump.md, R170 to R172).
In every rule PC has already been advanced past the instruction (R7), so each meaning advances it first. -/

namespace Sys2Proof.Machine

/-- The address of the high byte of a JMP INDIRECT pointer: with the page wrap of this part the low byte of the address
alone is incremented (R171, D15). -/
def indirectHiAddr (ptr : Word) : Word :=
  if Config.jmpIndirectPageWrap then word (hi ptr) (lo ptr + 1) else ptr + 1

/-- `IndirectTarget(ptr)` (R171). -/
def indirectTarget (ptr : Word) (s : State) : Word × State :=
  let l := s.memRead ptr
  let h := l.2.memRead (indirectHiAddr ptr)
  (word h.1 l.1, h.2)

/-- Whether a JSR whose third byte is at `third` would push onto that byte (R172, D22). -/
def jsrHitsOperand (third : Word) (sp : Byte) : Bool :=
  decide (third = stackAddr sp) || decide (third = stackAddr (sp - 1))

/-- The effect of JSR once it is not refused: the address of its own third byte is pushed, PC is the target (R172). -/
def opJsr (target : Word) (s : State) : State :=
  let s1 := s.advance 3
  (s1.pushWord (s1.pc - 1)).setPc target

/-- JMP ABS, opcode 4C (R170, R115). -/
def execJmpAbs (addr : Word) (s : State) : Result := .next ((s.advance 3).setPc addr)

/-- JMP INDIRECT, opcode 6C (R170, R123). -/
def execJmpInd (ptr : Word) (s : State) : Result :=
  let t := indirectTarget ptr (s.advance 3)
  .next (t.2.setPc t.1)

/-- JSR ABS, opcode 20 (R172, R115): refused by the model fault of R172 where a push would hit its third byte. -/
def execJsr (addr : Word) (s : State) : Result :=
  if jsrHitsOperand (s.pc + 2) s.sp then .fault .jsrOperandOnStack else .next (opJsr addr s)

end Sys2Proof.Machine
end

