-- ==== Sys2Proof/Machine/LoadStore.lean ====
section
/-! DEFINITION. Load and store: LDA STA LDX STX LDY STY (41_load_store.md, R130 to R135).
In every rule PC has already been advanced past the instruction (R7), so each meaning advances it first. -/

namespace Sys2Proof.Machine

/-- `A <- M; SetNZ(M)` (R130). -/
def opLda (src : Source) (s : State) : State :=
  let m := readSource src (s.advance (sourceLength src))
  (m.2.setA m.1).setNZ m.1

/-- `X <- M; SetNZ(M)` (R132). -/
def opLdx (src : Source) (s : State) : State :=
  let m := readSource src (s.advance (sourceLength src))
  (m.2.setX m.1).setNZ m.1

/-- `Y <- M; SetNZ(M)` (R134). -/
def opLdy (src : Source) (s : State) : State :=
  let m := readSource src (s.advance (sourceLength src))
  (m.2.setY m.1).setNZ m.1

/-- `MemWrite(EA(mode), 1, A)`; no flag changes (R131). -/
def opSta (m : MemForm) (s : State) : State :=
  writeMem m s.a (s.advance (memLength m))

/-- `MemWrite(EA(mode), 1, X)`; no flag changes (R133). -/
def opStx (m : MemForm) (s : State) : State :=
  writeMem m s.x (s.advance (memLength m))

/-- `MemWrite(EA(mode), 1, Y)`; no flag changes (R135). -/
def opSty (m : MemForm) (s : State) : State :=
  writeMem m s.y (s.advance (memLength m))

/-- LDA IMM, opcode A9 (R130, R111). -/
def execLdaImm (imm : Byte) (s : State) : Result := .next (opLda (.imm imm) s)

/-- LDA Z.PAGE, opcode A5 (R130, R112). -/
def execLdaZp (zp : Byte) (s : State) : Result := .next (opLda (.mem (.zp zp)) s)

/-- LDA Z.PAGE,X, opcode B5 (R130, R113). -/
def execLdaZpx (zp : Byte) (s : State) : Result := .next (opLda (.mem (.zpx zp)) s)

/-- LDA ABS, opcode AD (R130, R115). -/
def execLdaAbs (addr : Word) (s : State) : Result := .next (opLda (.mem (.abs addr)) s)

/-- LDA ABS,X, opcode BD (R130, R116). -/
def execLdaAbsx (addr : Word) (s : State) : Result := .next (opLda (.mem (.absx addr)) s)

/-- LDA ABS,Y, opcode B9 (R130, R117). -/
def execLdaAbsy (addr : Word) (s : State) : Result := .next (opLda (.mem (.absy addr)) s)

/-- LDA (IND,X), opcode A1 (R130, R118). -/
def execLdaIndx (zp : Byte) (s : State) : Result := .next (opLda (.mem (.indx zp)) s)

/-- LDA (IND,Y), opcode B1 (R130, R119). -/
def execLdaIndy (zp : Byte) (s : State) : Result := .next (opLda (.mem (.indy zp)) s)

/-- STA Z.PAGE, opcode 85 (R131, R112). -/
def execStaZp (zp : Byte) (s : State) : Result := .next (opSta (.zp zp) s)

/-- STA Z.PAGE,X, opcode 95 (R131, R113). -/
def execStaZpx (zp : Byte) (s : State) : Result := .next (opSta (.zpx zp) s)

/-- STA ABS, opcode 8D (R131, R115). -/
def execStaAbs (addr : Word) (s : State) : Result := .next (opSta (.abs addr) s)

/-- STA ABS,X, opcode 9D (R131, R116). -/
def execStaAbsx (addr : Word) (s : State) : Result := .next (opSta (.absx addr) s)

/-- STA ABS,Y, opcode 99 (R131, R117). -/
def execStaAbsy (addr : Word) (s : State) : Result := .next (opSta (.absy addr) s)

/-- STA (IND,X), opcode 81 (R131, R118). -/
def execStaIndx (zp : Byte) (s : State) : Result := .next (opSta (.indx zp) s)

/-- STA (IND,Y), opcode 91 (R131, R119). -/
def execStaIndy (zp : Byte) (s : State) : Result := .next (opSta (.indy zp) s)

/-- LDX IMM, opcode A2 (R132, R111). -/
def execLdxImm (imm : Byte) (s : State) : Result := .next (opLdx (.imm imm) s)

/-- LDX Z.PAGE, opcode A6 (R132, R112). -/
def execLdxZp (zp : Byte) (s : State) : Result := .next (opLdx (.mem (.zp zp)) s)

/-- LDX Z.PAGE,Y, opcode B6 (R132, R114). -/
def execLdxZpy (zp : Byte) (s : State) : Result := .next (opLdx (.mem (.zpy zp)) s)

/-- LDX ABS, opcode AE (R132, R115). -/
def execLdxAbs (addr : Word) (s : State) : Result := .next (opLdx (.mem (.abs addr)) s)

/-- LDX ABS,Y, opcode BE (R132, R117). -/
def execLdxAbsy (addr : Word) (s : State) : Result := .next (opLdx (.mem (.absy addr)) s)

/-- STX Z.PAGE, opcode 86 (R133, R112). -/
def execStxZp (zp : Byte) (s : State) : Result := .next (opStx (.zp zp) s)

/-- STX Z.PAGE,Y, opcode 96 (R133, R114). -/
def execStxZpy (zp : Byte) (s : State) : Result := .next (opStx (.zpy zp) s)

/-- STX ABS, opcode 8E (R133, R115). -/
def execStxAbs (addr : Word) (s : State) : Result := .next (opStx (.abs addr) s)

/-- LDY IMM, opcode A0 (R134, R111). -/
def execLdyImm (imm : Byte) (s : State) : Result := .next (opLdy (.imm imm) s)

/-- LDY Z.PAGE, opcode A4 (R134, R112). -/
def execLdyZp (zp : Byte) (s : State) : Result := .next (opLdy (.mem (.zp zp)) s)

/-- LDY Z.PAGE,X, opcode B4 (R134, R113). -/
def execLdyZpx (zp : Byte) (s : State) : Result := .next (opLdy (.mem (.zpx zp)) s)

/-- LDY ABS, opcode AC (R134, R115). -/
def execLdyAbs (addr : Word) (s : State) : Result := .next (opLdy (.mem (.abs addr)) s)

/-- LDY ABS,X, opcode BC (R134, R116). -/
def execLdyAbsx (addr : Word) (s : State) : Result := .next (opLdy (.mem (.absx addr)) s)

/-- STY Z.PAGE, opcode 84 (R135, R112). -/
def execStyZp (zp : Byte) (s : State) : Result := .next (opSty (.zp zp) s)

/-- STY Z.PAGE,X, opcode 94 (R135, R113). -/
def execStyZpx (zp : Byte) (s : State) : Result := .next (opSty (.zpx zp) s)

/-- STY ABS, opcode 8C (R135, R115). -/
def execStyAbs (addr : Word) (s : State) : Result := .next (opSty (.abs addr) s)

end Sys2Proof.Machine
end

