-- ==== Sys2Proof/Machine/Logical.lean ====
section
/-! DEFINITION. Logical and compare: AND ORA EOR BIT CMP CPX CPY (42_logical_compare.md, R140 to R147).
In every rule PC has already been advanced past the instruction (R7), so each meaning advances it first. -/

namespace Sys2Proof.Machine

/-- `A <- f(A, M); SetNZ(A)`, the shape of AND, ORA and EOR (R140, R141, R142). -/
def opLogic (f : Byte → Byte → Byte) (src : Source) (s : State) : State :=
  let m := readSource src (s.advance (sourceLength src))
  let r := f m.2.a m.1
  (m.2.setA r).setNZ r

/-- BIT: only Z, N and V change (R143). -/
def opBit (m : MemForm) (s : State) : State :=
  let r := readMem m (s.advance (memLength m))
  r.2.setP (bitFlags r.2.p r.2.a r.1)

/-- `Compare(R, M)` for a register R; only N, Z and C change (R144, R145, R146, R147). -/
def opCompare (reg : Byte) (src : Source) (s : State) : State :=
  let m := readSource src (s.advance (sourceLength src))
  m.2.setP (compareFlags m.2.p reg m.1)

/-- AND IMM, opcode 29 (R140, R111). -/
def execAndImm (imm : Byte) (s : State) : Result := .next (opLogic (· &&& ·) (.imm imm) s)

/-- AND Z.PAGE, opcode 25 (R140, R112). -/
def execAndZp (zp : Byte) (s : State) : Result := .next (opLogic (· &&& ·) (.mem (.zp zp)) s)

/-- AND Z.PAGE,X, opcode 35 (R140, R113). -/
def execAndZpx (zp : Byte) (s : State) : Result := .next (opLogic (· &&& ·) (.mem (.zpx zp)) s)

/-- AND ABS, opcode 2D (R140, R115). -/
def execAndAbs (addr : Word) (s : State) : Result := .next (opLogic (· &&& ·) (.mem (.abs addr)) s)

/-- AND ABS,X, opcode 3D (R140, R116). -/
def execAndAbsx (addr : Word) (s : State) : Result := .next (opLogic (· &&& ·) (.mem (.absx addr)) s)

/-- AND ABS,Y, opcode 39 (R140, R117). -/
def execAndAbsy (addr : Word) (s : State) : Result := .next (opLogic (· &&& ·) (.mem (.absy addr)) s)

/-- AND (IND,X), opcode 21 (R140, R118). -/
def execAndIndx (zp : Byte) (s : State) : Result := .next (opLogic (· &&& ·) (.mem (.indx zp)) s)

/-- AND (IND,Y), opcode 31 (R140, R119). -/
def execAndIndy (zp : Byte) (s : State) : Result := .next (opLogic (· &&& ·) (.mem (.indy zp)) s)

/-- ORA IMM, opcode 09 (R141, R111). -/
def execOraImm (imm : Byte) (s : State) : Result := .next (opLogic (· ||| ·) (.imm imm) s)

/-- ORA Z.PAGE, opcode 05 (R141, R112). -/
def execOraZp (zp : Byte) (s : State) : Result := .next (opLogic (· ||| ·) (.mem (.zp zp)) s)

/-- ORA Z.PAGE,X, opcode 15 (R141, R113). -/
def execOraZpx (zp : Byte) (s : State) : Result := .next (opLogic (· ||| ·) (.mem (.zpx zp)) s)

/-- ORA ABS, opcode 0D (R141, R115). -/
def execOraAbs (addr : Word) (s : State) : Result := .next (opLogic (· ||| ·) (.mem (.abs addr)) s)

/-- ORA ABS,X, opcode 1D (R141, R116). -/
def execOraAbsx (addr : Word) (s : State) : Result := .next (opLogic (· ||| ·) (.mem (.absx addr)) s)

/-- ORA ABS,Y, opcode 19 (R141, R117). -/
def execOraAbsy (addr : Word) (s : State) : Result := .next (opLogic (· ||| ·) (.mem (.absy addr)) s)

/-- ORA (IND,X), opcode 01 (R141, R118). -/
def execOraIndx (zp : Byte) (s : State) : Result := .next (opLogic (· ||| ·) (.mem (.indx zp)) s)

/-- ORA (IND,Y), opcode 11 (R141, R119). -/
def execOraIndy (zp : Byte) (s : State) : Result := .next (opLogic (· ||| ·) (.mem (.indy zp)) s)

/-- EOR IMM, opcode 49 (R142, R111). -/
def execEorImm (imm : Byte) (s : State) : Result := .next (opLogic (· ^^^ ·) (.imm imm) s)

/-- EOR Z.PAGE, opcode 45 (R142, R112). -/
def execEorZp (zp : Byte) (s : State) : Result := .next (opLogic (· ^^^ ·) (.mem (.zp zp)) s)

/-- EOR Z.PAGE,X, opcode 55 (R142, R113). -/
def execEorZpx (zp : Byte) (s : State) : Result := .next (opLogic (· ^^^ ·) (.mem (.zpx zp)) s)

/-- EOR ABS, opcode 4D (R142, R115). -/
def execEorAbs (addr : Word) (s : State) : Result := .next (opLogic (· ^^^ ·) (.mem (.abs addr)) s)

/-- EOR ABS,X, opcode 5D (R142, R116). -/
def execEorAbsx (addr : Word) (s : State) : Result := .next (opLogic (· ^^^ ·) (.mem (.absx addr)) s)

/-- EOR ABS,Y, opcode 59 (R142, R117). -/
def execEorAbsy (addr : Word) (s : State) : Result := .next (opLogic (· ^^^ ·) (.mem (.absy addr)) s)

/-- EOR (IND,X), opcode 41 (R142, R118). -/
def execEorIndx (zp : Byte) (s : State) : Result := .next (opLogic (· ^^^ ·) (.mem (.indx zp)) s)

/-- EOR (IND,Y), opcode 51 (R142, R119). -/
def execEorIndy (zp : Byte) (s : State) : Result := .next (opLogic (· ^^^ ·) (.mem (.indy zp)) s)

/-- BIT Z.PAGE, opcode 24 (R143, R112). -/
def execBitZp (zp : Byte) (s : State) : Result := .next (opBit (.zp zp) s)

/-- BIT ABS, opcode 2C (R143, R115). -/
def execBitAbs (addr : Word) (s : State) : Result := .next (opBit (.abs addr) s)

/-- CMP IMM, opcode C9 (R144, R111). -/
def execCmpImm (imm : Byte) (s : State) : Result := .next (opCompare s.a (.imm imm) s)

/-- CMP Z.PAGE, opcode C5 (R144, R112). -/
def execCmpZp (zp : Byte) (s : State) : Result := .next (opCompare s.a (.mem (.zp zp)) s)

/-- CMP Z.PAGE,X, opcode D5 (R144, R113). -/
def execCmpZpx (zp : Byte) (s : State) : Result := .next (opCompare s.a (.mem (.zpx zp)) s)

/-- CMP ABS, opcode CD (R144, R115). -/
def execCmpAbs (addr : Word) (s : State) : Result := .next (opCompare s.a (.mem (.abs addr)) s)

/-- CMP ABS,X, opcode DD (R144, R116). -/
def execCmpAbsx (addr : Word) (s : State) : Result := .next (opCompare s.a (.mem (.absx addr)) s)

/-- CMP ABS,Y, opcode D9 (R144, R117). -/
def execCmpAbsy (addr : Word) (s : State) : Result := .next (opCompare s.a (.mem (.absy addr)) s)

/-- CMP (IND,X), opcode C1 (R144, R118). -/
def execCmpIndx (zp : Byte) (s : State) : Result := .next (opCompare s.a (.mem (.indx zp)) s)

/-- CMP (IND,Y), opcode D1 (R144, R119). -/
def execCmpIndy (zp : Byte) (s : State) : Result := .next (opCompare s.a (.mem (.indy zp)) s)

/-- CPX IMM, opcode E0 (R145, R111). -/
def execCpxImm (imm : Byte) (s : State) : Result := .next (opCompare s.x (.imm imm) s)

/-- CPX Z.PAGE, opcode E4 (R145, R112). -/
def execCpxZp (zp : Byte) (s : State) : Result := .next (opCompare s.x (.mem (.zp zp)) s)

/-- CPX ABS, opcode EC (R145, R115). -/
def execCpxAbs (addr : Word) (s : State) : Result := .next (opCompare s.x (.mem (.abs addr)) s)

/-- CPY IMM, opcode C0 (R146, R111). -/
def execCpyImm (imm : Byte) (s : State) : Result := .next (opCompare s.y (.imm imm) s)

/-- CPY Z.PAGE, opcode C4 (R146, R112). -/
def execCpyZp (zp : Byte) (s : State) : Result := .next (opCompare s.y (.mem (.zp zp)) s)

/-- CPY ABS, opcode CC (R146, R115). -/
def execCpyAbs (addr : Word) (s : State) : Result := .next (opCompare s.y (.mem (.abs addr)) s)

end Sys2Proof.Machine
end

