-- ==== Sys2Proof/Machine/Register.lean ====
section
/-! DEFINITION. Register increment, decrement, transfer, flag instructions and NOP (47_register_flag_nop.md, R190 to R207).
In every rule PC has already been advanced past the instruction (R7), so each meaning advances it first. -/

namespace Sys2Proof.Machine

/-- INX, opcode E8 (R190). -/
def execInx (s : State) : Result := .next (((s.advance 1).setX (s.x + 1)).setNZ (s.x + 1))

/-- DEX, opcode CA (R191). -/
def execDex (s : State) : Result := .next (((s.advance 1).setX (s.x - 1)).setNZ (s.x - 1))

/-- INY, opcode C8 (R192). -/
def execIny (s : State) : Result := .next (((s.advance 1).setY (s.y + 1)).setNZ (s.y + 1))

/-- DEY, opcode 88 (R193). -/
def execDey (s : State) : Result := .next (((s.advance 1).setY (s.y - 1)).setNZ (s.y - 1))

/-- TAX, opcode AA (R194). -/
def execTax (s : State) : Result := .next (((s.advance 1).setX s.a).setNZ s.a)

/-- TXA, opcode 8A (R195). -/
def execTxa (s : State) : Result := .next (((s.advance 1).setA s.x).setNZ s.x)

/-- TAY, opcode A8 (R196). -/
def execTay (s : State) : Result := .next (((s.advance 1).setY s.a).setNZ s.a)

/-- TYA, opcode 98 (R197). -/
def execTya (s : State) : Result := .next (((s.advance 1).setA s.y).setNZ s.y)

/-- TSX, opcode BA (R198). -/
def execTsx (s : State) : Result := .next (((s.advance 1).setX s.sp).setNZ s.sp)

/-- TXS, opcode 9A (R199): no flag changes. -/
def execTxs (s : State) : Result := .next ((s.advance 1).setSp s.x)

/-- SED, opcode F8 (R200). -/
def execSed (s : State) : Result := .next ((s.advance 1).setP { s.p with d := true })

/-- CLD, opcode D8 (R201). -/
def execCld (s : State) : Result := .next ((s.advance 1).setP { s.p with d := false })

/-- SEI, opcode 78 (R202): I is set; R242 notes I as it was before. -/
def execSei (s : State) : Result := .next (lateIrq s.p.i ((s.advance 1).setP { s.p with i := true }))

/-- CLI, opcode 58 (R203). -/
def execCli (s : State) : Result := .next ((s.advance 1).setP { s.p with i := false })

/-- SEC, opcode 38 (R204). -/
def execSec (s : State) : Result := .next ((s.advance 1).setP { s.p with c := true })

/-- CLC, opcode 18 (R205). -/
def execClc (s : State) : Result := .next ((s.advance 1).setP { s.p with c := false })

/-- CLV, opcode B8 (R206). -/
def execClv (s : State) : Result := .next ((s.advance 1).setP { s.p with v := false })

/-- NOP, opcode EA (R207): only PC changes. -/
def execNop (s : State) : Result := .next (s.advance 1)

end Sys2Proof.Machine
end

