-- ==== Sys2Proof/Machine/Shift.lean ====
section
/-! DEFINITION. Shift, rotate, increment and decrement memory: ASL LSR ROL ROR INC DEC (44_shift_incdec.md, R160 to R166).
In every rule PC has already been advanced past the instruction (R7), so each meaning advances it first. -/

namespace Sys2Proof.Machine

/-- The shape of the four shifts: the operand becomes `f old`, C the bit shifted out, N and Z from the new byte
(R160 to R163, R166). -/
def opShift (f : Byte → Byte) (out : Byte → Bool) (pl : Place) (s : State) : State :=
  let old := modifyPlace pl f (s.advance (placeLength pl))
  (old.2.setC (out old.1)).setNZ (f old.1)

/-- `(old << 1) mod 256` (R160). -/
def shiftLeft (old : Byte) : Byte := old <<< 1

/-- `old >> 1` (R161). -/
def shiftRight (old : Byte) : Byte := old >>> 1

/-- `((old << 1) mod 256) | P.C` (R162). -/
def rotateLeft (c : Bool) (old : Byte) : Byte := (old <<< 1) ||| (BitVec.ofBool c).setWidth 8

/-- `(old >> 1) | (P.C << 7)` (R163). -/
def rotateRight (c : Bool) (old : Byte) : Byte := (old >>> 1) ||| ((BitVec.ofBool c).setWidth 8 <<< 7)

/-- `old[7]`, the bit a left shift moves into C (R160, R162). -/
def bit7 (old : Byte) : Bool := old.getLsbD 7

/-- `old[0]`, the bit a right shift moves into C (R161, R163). -/
def bit0 (old : Byte) : Bool := old.getLsbD 0

/-- The shape of INC and DEC: the byte becomes `f old`, N and Z from it; C and V are not written (R164, R165). -/
def opIncDec (f : Byte → Byte) (m : MemForm) (s : State) : State :=
  let old := modifyMem m f (s.advance (memLength m))
  old.2.setNZ (f old.1)

/-- ASL Z.PAGE, opcode 06 (R160, R112). -/
def execAslZp (zp : Byte) (s : State) : Result := .next (opShift shiftLeft bit7 (.mem (.zp zp)) s)

/-- ASL Z.PAGE,X, opcode 16 (R160, R113). -/
def execAslZpx (zp : Byte) (s : State) : Result := .next (opShift shiftLeft bit7 (.mem (.zpx zp)) s)

/-- ASL ABS, opcode 0E (R160, R115). -/
def execAslAbs (addr : Word) (s : State) : Result := .next (opShift shiftLeft bit7 (.mem (.abs addr)) s)

/-- ASL ABS,X, opcode 1E (R160, R116). -/
def execAslAbsx (addr : Word) (s : State) : Result := .next (opShift shiftLeft bit7 (.mem (.absx addr)) s)

/-- ASL ACCUM., opcode 0A (R160, R120). -/
def execAslAcc (s : State) : Result := .next (opShift shiftLeft bit7 .acc s)

/-- LSR Z.PAGE, opcode 46 (R161, R112). -/
def execLsrZp (zp : Byte) (s : State) : Result := .next (opShift shiftRight bit0 (.mem (.zp zp)) s)

/-- LSR Z.PAGE,X, opcode 56 (R161, R113). -/
def execLsrZpx (zp : Byte) (s : State) : Result := .next (opShift shiftRight bit0 (.mem (.zpx zp)) s)

/-- LSR ABS, opcode 4E (R161, R115). -/
def execLsrAbs (addr : Word) (s : State) : Result := .next (opShift shiftRight bit0 (.mem (.abs addr)) s)

/-- LSR ABS,X, opcode 5E (R161, R116). -/
def execLsrAbsx (addr : Word) (s : State) : Result := .next (opShift shiftRight bit0 (.mem (.absx addr)) s)

/-- LSR ACCUM., opcode 4A (R161, R120). -/
def execLsrAcc (s : State) : Result := .next (opShift shiftRight bit0 .acc s)

/-- ROL Z.PAGE, opcode 26 (R162, R112). -/
def execRolZp (zp : Byte) (s : State) : Result := .next (opShift (rotateLeft s.p.c) bit7 (.mem (.zp zp)) s)

/-- ROL Z.PAGE,X, opcode 36 (R162, R113). -/
def execRolZpx (zp : Byte) (s : State) : Result := .next (opShift (rotateLeft s.p.c) bit7 (.mem (.zpx zp)) s)

/-- ROL ABS, opcode 2E (R162, R115). -/
def execRolAbs (addr : Word) (s : State) : Result := .next (opShift (rotateLeft s.p.c) bit7 (.mem (.abs addr)) s)

/-- ROL ABS,X, opcode 3E (R162, R116). -/
def execRolAbsx (addr : Word) (s : State) : Result := .next (opShift (rotateLeft s.p.c) bit7 (.mem (.absx addr)) s)

/-- ROL ACCUM., opcode 2A (R162, R120). -/
def execRolAcc (s : State) : Result := .next (opShift (rotateLeft s.p.c) bit7 .acc s)

/-- ROR Z.PAGE, opcode 66 (R163, R112). -/
def execRorZp (zp : Byte) (s : State) : Result := .next (opShift (rotateRight s.p.c) bit0 (.mem (.zp zp)) s)

/-- ROR Z.PAGE,X, opcode 76 (R163, R113). -/
def execRorZpx (zp : Byte) (s : State) : Result := .next (opShift (rotateRight s.p.c) bit0 (.mem (.zpx zp)) s)

/-- ROR ABS, opcode 6E (R163, R115). -/
def execRorAbs (addr : Word) (s : State) : Result := .next (opShift (rotateRight s.p.c) bit0 (.mem (.abs addr)) s)

/-- ROR ABS,X, opcode 7E (R163, R116). -/
def execRorAbsx (addr : Word) (s : State) : Result := .next (opShift (rotateRight s.p.c) bit0 (.mem (.absx addr)) s)

/-- ROR ACCUM., opcode 6A (R163, R120). -/
def execRorAcc (s : State) : Result := .next (opShift (rotateRight s.p.c) bit0 .acc s)

/-- INC Z.PAGE, opcode E6 (R164, R112). -/
def execIncZp (zp : Byte) (s : State) : Result := .next (opIncDec (· + 1) (.zp zp) s)

/-- INC Z.PAGE,X, opcode F6 (R164, R113). -/
def execIncZpx (zp : Byte) (s : State) : Result := .next (opIncDec (· + 1) (.zpx zp) s)

/-- INC ABS, opcode EE (R164, R115). -/
def execIncAbs (addr : Word) (s : State) : Result := .next (opIncDec (· + 1) (.abs addr) s)

/-- INC ABS,X, opcode FE (R164, R116). -/
def execIncAbsx (addr : Word) (s : State) : Result := .next (opIncDec (· + 1) (.absx addr) s)

/-- DEC Z.PAGE, opcode C6 (R165, R112). -/
def execDecZp (zp : Byte) (s : State) : Result := .next (opIncDec (· - 1) (.zp zp) s)

/-- DEC Z.PAGE,X, opcode D6 (R165, R113). -/
def execDecZpx (zp : Byte) (s : State) : Result := .next (opIncDec (· - 1) (.zpx zp) s)

/-- DEC ABS, opcode CE (R165, R115). -/
def execDecAbs (addr : Word) (s : State) : Result := .next (opIncDec (· - 1) (.abs addr) s)

/-- DEC ABS,X, opcode DE (R165, R116). -/
def execDecAbsx (addr : Word) (s : State) : Result := .next (opIncDec (· - 1) (.absx addr) s)

end Sys2Proof.Machine
end

