-- ==== Sys2Proof/Machine/Stack.lean ====
section
/-! DEFINITION. Break, returns and stack: BRK RTS RTI PHP PLP PHA PLA (46_break_return_stack.md, R176 to R182).
In every rule PC has already been advanced past the instruction (R7), so each meaning advances it first. -/

namespace Sys2Proof.Machine

/-- The vector of a BRK: 0xFFFE, or 0xFFFA when an NMI is pending and captures it, which R242 admits and the environment
chooses (log 10). -/
def brkVector (s : State) : Word :=
  if s.nmiPending && s.brkNmi then nmiVector else irqVector

/-- BRK, opcode 00 (R176): the return address is BRK's own plus 2, bit 4 of the pushed status is 1, I is set. -/
def execBrk (s : State) : Result := .next ((s.advance 1).takeException (s.pc + 2) true (brkVector s))

/-- RTS, opcode 60 (R177): PC is the pulled word plus 1. -/
def execRts (s : State) : Result :=
  let w := (s.advance 1).pullWord
  .next (w.2.setPc (w.1 + 1))

/-- RTI, opcode 40 (R178): the six flags, then PC, exactly as pulled. -/
def execRti (s : State) : Result := .next (s.advance 1).returnFromException

/-- PHP, opcode 08 (R179): the status byte with bits 5 and 4 set is pushed. -/
def execPhp (s : State) : Result := .next ((s.advance 1).push (statusByte s.p true))

/-- PLP, opcode 28 (R180): the six flags are pulled; R242 notes I as it was before. -/
def execPlp (s : State) : Result :=
  let f := (s.advance 1).pull
  .next (lateIrq s.p.i (f.2.setP (setStatus f.1)))

/-- PHA, opcode 48 (R181): A is pushed. -/
def execPha (s : State) : Result := .next ((s.advance 1).push s.a)

/-- PLA, opcode 68 (R182): A is pulled; N and Z from it. -/
def execPla (s : State) : Result :=
  let v := (s.advance 1).pull
  .next ((v.2.setA v.1).setNZ v.1)

end Sys2Proof.Machine
end

