-- ==== Sys2Proof/WellFormed.lean ====
section
/-! DEFINITION. Well-formedness: which mode an instruction may use (R125) and how long it is (R82). Every operand byte
and word may hold any value (R83), so the modes are the only check; by construction every term of Instr passes it. -/

namespace Sys2Proof

/-- The length in bytes of an instruction of each mode (R82). -/
def Mode.length : Mode → Nat
  | .imp | .acc => 1
  | .imm | .zp | .zpx | .zpy | .indx | .indy | .rel => 2
  | .abs | .absx | .absy | .ind => 3

/-- The modes available to each mnemonic (R125). -/
def Mnemonic.modes : Mnemonic → List Mode
  | .lda | .and | .ora | .eor | .cmp | .adc | .sbc => [.imm, .zp, .zpx, .abs, .absx, .absy, .indx, .indy]
  | .sta => [.zp, .zpx, .abs, .absx, .absy, .indx, .indy]
  | .ldx => [.imm, .zp, .zpy, .abs, .absy]
  | .ldy => [.imm, .zp, .zpx, .abs, .absx]
  | .stx => [.zp, .zpy, .abs]
  | .sty => [.zp, .zpx, .abs]
  | .cpx | .cpy => [.imm, .zp, .abs]
  | .bit => [.zp, .abs]
  | .asl | .lsr | .rol | .ror => [.acc, .zp, .zpx, .abs, .absx]
  | .inc | .dec => [.zp, .zpx, .abs, .absx]
  | .jmp => [.abs, .ind]
  | .jsr => [.abs]
  | .beq | .bne | .bmi | .bpl | .bcc | .bcs | .bvc | .bvs => [.rel]
  | .brk | .rts | .rti | .php | .plp | .pha | .pla => [.imp]
  | .inx | .dex | .iny | .dey | .tax | .txa | .tay | .tya | .tsx | .txs => [.imp]
  | .sed | .cld | .sei | .cli | .sec | .clc | .clv | .nop => [.imp]

/-- A mnemonic with an operand is well formed when the operand's mode is one R125 gives the mnemonic. -/
def modeAvailable (m : Mnemonic) (o : Operand) : Bool :=
  m.modes.contains o.mode

/-- An instruction is well formed when its mode is one R125 gives its mnemonic. -/
def Instr.wellFormed (i : Instr) : Bool :=
  modeAvailable i.mnemonic i.operand

end Sys2Proof
end

