-- ==== Sys2Proof/Machine/Fetch.lean ====
section
/-! DEFINITION. Fetching an instruction's bytes with the same MemRead as data (R7, R65), and laying the bytes of a table
word where the next fetch reads them. -/

namespace Sys2Proof.Machine

/-- The `n` bytes from `a` on, the address wrapping modulo 2^16 (R24, R80). -/
def State.fetchBytes : Nat → Word → State → List Byte × State
  | 0, _, s => ([], s)
  | n + 1, a, s =>
    let b := s.memRead a
    let r := State.fetchBytes n (a + 1) b.2
    (b.1 :: r.1, r.2)

/-- All the bytes of the instruction at PC: the opcode, then the operand bytes that its length asks for (R7, R83). -/
def State.fetchInstruction (s : State) : List Byte × State :=
  let opc := s.memRead s.pc
  let r := State.fetchBytes (opcodeLength opc.1 - 1) (s.pc + 1) opc.2
  (opc.1 :: r.1, r.2)

/-- Fetch and decode: the instruction at PC and the state after its reads, or the model fault of R95. Every opcode's
length gives the decoder the bytes it asks for, so an undefined opcode is the one way to fail. -/
def State.fetchDecode (s : State) : Except Fault (Instr × State) :=
  match decode s.fetchInstruction.1 with
  | .ok (i, _) => .ok (i, s.fetchInstruction.2)
  | .error _ => .error (.undefinedOpcode (s.memRead s.pc).1 s.pc)

/-- Three bytes stored from `a` on, whatever the memory map says: how a program's bytes come to be in memory (log 3). -/
def Memory.place (m : Memory) (a : Word) (b0 b1 b2 : Byte) : Memory :=
  ((m.write a.toNat b0).write (a + 1).toNat b1).write (a + 2).toNat b2

/-- No interrupt source pends and no input is to come, so that the coming boundary runs an instruction; the map is all
RAM, so that the fetch reads what is stored. After reset this changes nothing (log 25). -/
def State.quiet (s : State) : State :=
  { s with inputs := [], irqLine := false, nmiPending := false, memMap := [] }

end Sys2Proof.Machine
end

