-- ==== Sys2Proof/Machine/Interrupt.lean ====
section
/-! DEFINITION. What happens at an instruction boundary (60_exceptions.md, 70_reset_and_hazards.md R270): the environment's
inputs are sampled, one event is chosen in the priority of R235 by the relation of R242, and an interrupt entry or a
reset is one atomic step. -/

namespace Sys2Proof.Machine

/-- What the environment does at this boundary: the head of its script; past the end of the script the IRQ line keeps its
level, nothing else happens and a pending interrupt is taken (log 7). -/
def State.boundaryInput (s : State) : BoundaryInput :=
  match s.inputs with
  | e :: _ => e
  | [] => { irqLine := s.irqLine, nmiEdge := false, resetRequest := false, resetInside := false,
            takeNow := true, brkNmi := false }

/-- The inputs sampled: the script moves on, the line takes its level, an NMI edge sets the latch, where an edge that finds
it set merges with the pending one (R232, R234). -/
def State.sampled (s : State) : State :=
  { s with
    inputs := s.inputs.tail
    irqLine := s.boundaryInput.irqLine
    nmiPending := s.nmiPending || s.boundaryInput.nmiEdge
    brkNmi := s.boundaryInput.brkNmi }

/-- What a boundary may lead to (R7, R235). -/
inductive BoundaryEvent where
  | reset
  | nmi
  | irq
  | instruction
deriving DecidableEq, Repr

/-- IRQ is asserted and admitted: I is 0 now, or the instruction just executed was SEI or PLP and I was 0 before it
(R233, R242). -/
def State.irqAdmitted (s : State) : Bool :=
  s.irqLine && (!s.p.i || s.irqLate)

/-- The event at a boundary, on the sampled state (R235, R242). RESET first; then a pending NMI; then an admitted IRQ; for
these two the relation admits the entry and one more instruction, and `takeNow` chooses, but an NMI held at the last
boundary, or an IRQ held there with I = 0, is taken now: the weak fairness of R242 (log 8). -/
def State.eventFor (s : State) (e : BoundaryInput) : BoundaryEvent :=
  if e.resetRequest then .reset
  else if s.nmiPending then
    if s.nmiHeld || e.takeNow then .nmi else .instruction
  else if s.irqAdmitted then
    if (s.irqHeld && !s.p.i) || e.takeNow then .irq else .instruction
  else .instruction

/-- The event of the coming boundary. -/
def State.boundaryEvent (s : State) : BoundaryEvent :=
  s.sampled.eventFor s.boundaryInput

/-- Interrupt entry for NMI and IRQ, `enter(vector)` of R236: PC, the address of the instruction not yet executed, and the
status byte with bit 4 = 0 are pushed, I is set, PC is read from the vector. No instruction has just executed after it. -/
def State.enter (s : State) (vector : Word) : State :=
  { s.takeException s.pc false vector with irqLate := false, irqHeld := false }

/-- The NMI entry (R236). -/
def State.enterNmi (s : State) : State := s.enter nmiVector

/-- The IRQ entry (R236). -/
def State.enterIrq (s : State) : State := s.enter irqVector

/-- The registers after RESET: I is 1; A, X, Y, S, N, V, D, Z and C are draws; memory is unchanged (R270; log 6). -/
def State.resetRegisters (s : State) : State :=
  { s with
    p :=
      { n := Config.drawBit s.draws
        v := Config.drawBit (s.draws + 1)
        d := Config.drawBit (s.draws + 2)
        i := true
        z := Config.drawBit (s.draws + 3)
        c := Config.drawBit (s.draws + 4) }
    a := Config.drawByte (s.draws + 5)
    x := Config.drawByte (s.draws + 6)
    y := Config.drawByte (s.draws + 7)
    sp := Config.drawByte (s.draws + 8)
    draws := s.draws + 9
    nmiPending := false
    irqLate := false
    nmiHeld := false
    irqHeld := false }

/-- The reset step (R250, R270): PC is read from 0xFFFC. -/
def State.resetStep (s : State) : State :=
  let v := s.resetRegisters.read16 resetVector
  v.2.setPc v.1

/-- An instruction is about to run: what fairness remembers of the sources that were passed over (R242), and no SEI or PLP
has yet executed after this boundary. -/
def State.beginInstruction (s : State) : State :=
  { s with nmiHeld := s.nmiPending, irqHeld := s.irqLine && !s.p.i, irqLate := false }

end Sys2Proof.Machine
end

