-- ==== Sys2Proof/Machine/Reset.lean ====
section
/-! DEFINITION. Taking a RESET (R250, R270): at an instruction boundary, or in the middle of the instruction at PC, whose
half-done writes leave free values (R250, U16). -/

namespace Sys2Proof.Machine

/-- Every address of the list that is RAM takes a fresh free byte: "a model that must be safe treats every byte written by
the interrupted instruction as `draw(8)`" (R250; log 13). -/
def State.scramble : List Word → State → State
  | [], s => s
  | a :: as, s =>
    if s.kindAt a = .ram then State.scramble as (s.drawByte.2.memWrite a s.drawByte.1) else State.scramble as s

/-- A RESET in the middle of the instruction at PC: the bytes that instruction would store are free values, nothing else it
does happens, and the reset step follows. Where the instruction is a model fault, so is this (R95, R172). -/
def State.resetInsideInstruction (s : State) : Result :=
  match s.fetchDecode with
  | .ok (i, s1) =>
    match exec i s1 with
    | .next t => .next (State.scramble (storesTo i s1) { s with draws := t.draws }).resetStep
    | .fault f => .fault f
    | .refused r => .refused r
  | .error f => .fault f

/-- The reset of a boundary whose input requests it (R235, R250, R270). -/
def State.takeReset (s : State) : Result :=
  if s.boundaryInput.resetInside then s.sampled.resetInsideInstruction else .next s.sampled.resetStep

end Sys2Proof.Machine
end

