-- ==== Sys2Proof/Machine/Step.lean ====
section
/-! DEFINITION. The step (R7): at each instruction boundary one whole instruction, one interrupt entry, or one reset. -/

namespace Sys2Proof.Machine

/-- One instruction at PC: fetch, decode, execute (R7, "step_instruction"). -/
def State.runInstruction (s : State) : Result :=
  match s.fetchDecode with
  | .ok (i, s1) => exec i s1
  | .error f => .fault f

/-- One step of the machine (R7, R235). -/
def step (s : State) : Host.Outcome State Fault Refusal :=
  match s.boundaryEvent with
  | .reset => s.takeReset
  | .nmi => .next s.sampled.enterNmi
  | .irq => .next s.sampled.enterIrq
  | .instruction => s.sampled.beginInstruction.runInstruction

/-- `s` with the instruction whose bits are the `nbits` low bits of `w` loaded, the first byte the least significant, every
bit above zero up to three bytes, and nothing pending that would come before it. PC stands at the program, as the reset
vector that comes with it would have it: the vector of an empty memory is free (log 3, 25). -/
def State.withFetchWord (s : State) (nbits w : Nat) : State :=
  let v := w % 2 ^ nbits
  { s.quiet with
    pc := Config.loadAddress
    mem := s.mem.place Config.loadAddress (BitVec.ofNat 8 v) (BitVec.ofNat 8 (v / 256)) (BitVec.ofNat 8 (v / 65536)) }

end Sys2Proof.Machine
end

