-- ==== Sys2Proof/Machine/Timing.lean ====
section
/-! DEFINITION. Cycle counts (R275, R276), an annotation only: no step reads them and no state holds elapsed cycles
(R277, D14; log 19). -/

namespace Sys2Proof.Machine

/-- The cycle count of R275 for a mnemonic in a mode, before the adjustments of R276. -/
def baseCycles (m : Mnemonic) (mode : Mode) : Nat :=
  match m, mode with
  | .sta, .absx | .sta, .absy => 5
  | .sta, .indy => 6
  | .jmp, .abs => 3
  | .jmp, _ => 5
  | .jsr, _ | .rts, _ | .rti, _ => 6
  | .brk, _ => 7
  | .php, _ | .pha, _ => 3
  | .plp, _ | .pla, _ => 4
  | .asl, md | .lsr, md | .rol, md | .ror, md | .inc, md | .dec, md =>
    match md with
    | .acc => 2
    | .zp => 5
    | .zpx | .abs => 6
    | _ => 7
  | _, md =>
    match md with
    | .imp | .acc | .imm | .rel => 2
    | .zp => 3
    | .zpx | .zpy | .abs | .absx | .absy => 4
    | .indx => 6
    | .indy | .ind => 5

/-- Whether Footnote 1 applies: the instructions that only read memory (R276). -/
def readsMemoryOnly : Mnemonic → Bool
  | .lda | .ldx | .ldy | .and | .ora | .eor | .cmp | .adc | .sbc => true
  | _ => false

/-- One more cycle when the indexed address crosses a page (R124, R276, Footnote 1). -/
def pageCycles (m : MemForm) (s : State) : Nat :=
  match m with
  | .absx w => (pageCrossed w s.x).toNat
  | .absy w => (pageCrossed w s.y).toNat
  | .indy b => (pageCrossed (s.readZp16 b).1 s.y).toNat
  | _ => 0

/-- Whether a branch would be taken (R217 to R224). -/
def branchTaken (m : Mnemonic) (p : Status) : Bool :=
  match m with
  | .beq => p.z
  | .bne => !p.z
  | .bmi => p.n
  | .bpl => !p.n
  | .bcs => p.c
  | .bcc => !p.c
  | .bvs => p.v
  | .bvc => !p.v
  | _ => false

/-- A taken branch costs 1 more to the page of the next instruction and 2 more to another (R276, Footnote 2). -/
def branchCycles (m : Mnemonic) (disp : Byte) (s : State) : Nat :=
  if branchTaken m s.p then
    if hi (s.pc + 2 + sext disp) = hi (s.pc + 2) then 1 else 2
  else 0

/-- The cycles an instruction takes when it executes in state `s` (R275, R276). -/
def cycles (i : Instr) (s : State) : Nat :=
  baseCycles i.mnemonic i.operand.mode +
    match i.operand with
    | .data (.mem m) => if readsMemoryOnly i.mnemonic then pageCycles m s else 0
    | .rel disp => branchCycles i.mnemonic disp s
    | _ => 0

/-- Interrupt entry and reset take 7 cycles each (R236, R270, R275). -/
def entryCycles : Nat := 7

end Sys2Proof.Machine
end

