-- ==== Sys2Proof/Safety.lean ====
section
/-! DEFINITION. What counts as a safe and a finished run (D9, R231) and the invariant of the machine, in the terms the
statements use. -/

namespace Sys2Proof.Machine

/-- The parameter HaltPC: a run is final when PC is in the set at an instruction boundary (R5, D9; log 26). -/
def isFinal (haltPc : List Word) (s : State) : Bool := haltPc.contains s.pc

/-- How a run of at most `k` steps ends. -/
inductive RunEnd where
  | final (s : State)
  | faulted (f : Fault)
  | refused (r : Refusal)
  | unfinished (s : State)
deriving DecidableEq, Repr

/-- A run of at most `k` steps, final as soon as PC is in HaltPC; "a run that faults is never final" (D9, R231). -/
def runToHalt (haltPc : List Word) : Nat → State → RunEnd
  | 0, s => if isFinal haltPc s then .final s else .unfinished s
  | k + 1, s =>
    if isFinal haltPc s then .final s
    else match step s with
      | .next t => runToHalt haltPc k t
      | .fault f => .faulted f
      | .refused r => .refused r

/-- The invariant every step keeps: the memory is in canonical form (addresses strictly rising, below 65536), and fairness holds back an NMI only while one is
pending. -/
def State.Inv (s : State) : Prop :=
  s.mem.wf = true ∧ (s.nmiHeld = true → s.nmiPending = true)

end Sys2Proof.Machine
end

