-- ==== Sys2Proof/Certificates/Slice0/Obligations.lean ====
section
/-! DEFINITION. The statements about the machine, from the numbered rules of spec/. A statement of an instruction's result
is also its completion statement: its conclusion is that `exec` answers the next state written out there. Where a
statement names `Config.drawByte` or `Config.drawBit` it says that the value is free (R11; log 4), never what it is. -/

namespace Sys2Proof.Claims

open Sys2Proof.Machine

/-- The address is RAM or ROM, so a read gives the stored byte (R52). -/
def Stored (s : State) (a : Word) : Prop := s.kindAt a = .ram ∨ s.kindAt a = .rom

/-- The opcode bytes of a mnemonic, mode by mode: every instruction of that mnemonic is in the list. -/
def OpcodesAre (m : Mnemonic) (l : List (Mode × Byte)) : Prop :=
  ∀ i : Instr, i.mnemonic = m → (i.operand.mode, i.opcode) ∈ l

/-- One entry of a rule's "Encodings" line: the mode, the opcode byte, the cycles, and whether one more is added when a
page is crossed. -/
structure Encoding where
  mode : Mode
  opcode : Byte
  cycles : Nat
  plusOne : Bool

/-- Whether the indexed operand of an instruction crosses a page, in the words of R124. -/
def crossesPage (i : Instr) (s : State) : Bool :=
  match i.operand with
  | .data (.mem (.absx w)) => decide ((lo w).toNat + s.x.toNat > 0xFF)
  | .data (.mem (.absy w)) => decide ((lo w).toNat + s.y.toNat > 0xFF)
  | .data (.mem (.indy b)) => decide ((s.memRead (BitVec.ofNat 16 b.toNat)).1.toNat + s.y.toNat > 0xFF)
  | _ => false

/-- The encodings of a mnemonic: every instruction of that mnemonic has the mode, opcode and cycles of an entry, and every
entry has an instruction. -/
def EncodingsAre (m : Mnemonic) (l : List Encoding) : Prop :=
  (∀ i : Instr, i.mnemonic = m → ∃ e ∈ l, i.operand.mode = e.mode ∧ i.opcode = e.opcode ∧
    ∀ s : State, cycles i s = e.cycles + if e.plusOne && crossesPage i s then 1 else 0) ∧
  ∀ e ∈ l, ∃ i : Instr, i.mnemonic = m ∧ i.operand.mode = e.mode ∧ i.opcode = e.opcode

/-- The address of the next sequential instruction (R7, R24). -/
def nextPc (i : Instr) (s : State) : Word := s.pc + BitVec.ofNat 16 i.operand.mode.length

/-- N and Z from a byte, the other flags as they were (R11, SetNZ). -/
def withNZ (p : Status) (v : Byte) : Status := { p with n := v.getLsbD 7, z := decide (v = 0#8) }

/-- The six flags from bits 7, 6, 3, 2, 1 and 0 of a pulled byte (R30, R178, R180). -/
def pulledFlags (b : Byte) : Status :=
  ⟨b.getLsbD 7, b.getLsbD 6, b.getLsbD 3, b.getLsbD 2, b.getLsbD 1, b.getLsbD 0⟩

/-- Both halves of the byte are 0 to 9 (R153). -/
def BcdByte (v : Byte) : Prop := v.toNat / 16 ≤ 9 ∧ v.toNat % 16 ≤ 9

/-- `dec(v) = 10 * v[7:4] + v[3:0]` (R153). -/
def decValue (v : Byte) : Int := 10 * (v.toNat / 16 : Nat) + (v.toNat % 16 : Nat)

/-- `bcd(n) = ((n div 10) << 4) | (n mod 10)` (R153). -/
def bcdOf (n : Int) : Byte := BitVec.ofInt 8 (16 * (n / 10) + n % 10)

/-- A byte as a two's complement number (R152). -/
def signed (v : Byte) : Int := v.toInt

/-- The 105 undefined opcode bytes as R95 lists them. -/
def undefinedOpcodes : List Byte := [
  0x02, 0x03, 0x04, 0x07, 0x0B, 0x0C, 0x0F, 0x12, 0x13, 0x14, 0x17, 0x1A, 0x1B, 0x1C, 0x1F,
  0x22, 0x23, 0x27, 0x2B, 0x2F, 0x32, 0x33, 0x34, 0x37, 0x3A, 0x3B, 0x3C, 0x3F, 0x42, 0x43] ++ [
  0x44, 0x47, 0x4B, 0x4F, 0x52, 0x53, 0x54, 0x57, 0x5A, 0x5B, 0x5C, 0x5F, 0x62, 0x63, 0x64,
  0x67, 0x6B, 0x6F, 0x72, 0x73, 0x74, 0x77, 0x7A, 0x7B, 0x7C, 0x7F, 0x80, 0x82, 0x83, 0x87] ++ [
  0x89, 0x8B, 0x8F, 0x92, 0x93, 0x97, 0x9B, 0x9C, 0x9E, 0x9F, 0xA3, 0xA7, 0xAB, 0xAF, 0xB2,
  0xB3, 0xB7, 0xBB, 0xBF, 0xC2, 0xC3, 0xC7, 0xCB, 0xCF, 0xD2, 0xD3, 0xD4, 0xD7, 0xDA, 0xDB] ++ [
  0xDC, 0xDF, 0xE2, 0xE3, 0xE7, 0xEB, 0xEF, 0xF2, 0xF3, 0xF4, 0xF7, 0xFA, 0xFB, 0xFC, 0xFF]

/-- The mnemonics that write PC other than by sequential advance (R24). -/
def writesPc : Mnemonic → Bool
  | .jmp | .jsr | .rts | .rti | .brk | .beq | .bne | .bmi | .bpl | .bcc | .bcs | .bvc | .bvs => true
  | _ => false

/-- The flags an instruction may write, as the table of R26 lists them: true where it may. -/
def flagsWritten : Mnemonic → Status
  | .lda | .ldx | .ldy | .and | .ora | .eor | .pla | .tax | .tay | .txa | .tya | .tsx
  | .inx | .iny | .dex | .dey | .inc | .dec => ⟨true, false, false, false, true, false⟩
  | .asl | .lsr | .rol | .ror | .cmp | .cpx | .cpy => ⟨true, false, false, false, true, true⟩
  | .adc | .sbc => ⟨true, true, false, false, true, true⟩
  | .bit => ⟨true, true, false, false, true, false⟩
  | .sec | .clc => ⟨false, false, false, false, false, true⟩
  | .sed | .cld => ⟨false, false, true, false, false, false⟩
  | .sei | .cli | .brk => ⟨false, false, false, true, false, false⟩
  | .clv => ⟨false, true, false, false, false, false⟩
  | .plp | .rti => ⟨true, true, true, true, true, true⟩
  | _ => ⟨false, false, false, false, false, false⟩

/-- The instructions whose destination is A (R20). -/
def writesA (i : Instr) : Bool :=
  match i.mnemonic with
  | .lda | .and | .ora | .eor | .adc | .sbc | .pla | .txa | .tya => true
  | .asl | .lsr | .rol | .ror => decide (i.operand = .acc)
  | _ => false

/-- The instructions that write X (R21). -/
def writesX : Mnemonic → Bool
  | .ldx | .tax | .tsx | .inx | .dex => true
  | _ => false

/-- The instructions that write Y (R21). -/
def writesY : Mnemonic → Bool
  | .ldy | .tay | .iny | .dey => true
  | _ => false

/-- How far S moves: TXS apart, S changes only by pushes and pulls (R22, R31). -/
def stackMove : Mnemonic → Byte
  | .pha | .php => -1
  | .pla | .plp => 1
  | .jsr => -2
  | .rts => 2
  | .brk => -3
  | .rti => 3
  | _ => 0

/-- The state with D at a chosen value. -/
def withD (d : Bool) (s : State) : State := { s with p := { s.p with d := d } }

/-- The outcome with D at a chosen value in the next state. -/
def outcomeWithD (d : Bool) : Result → Result
  | .next t => .next (withD d t)
  | .fault f => .fault f
  | .refused r => .refused r

/-- The instructions that read or write D (R27, R155; all six flags are pushed or pulled together by the last four). -/
def usesD : Mnemonic → Bool
  | .adc | .sbc | .sed | .cld | .php | .plp | .brk | .rti => true
  | _ => false

/-- The branch condition of each branch (R217 to R224). -/
def branchCondition (p : Status) : Mnemonic → Option Bool
  | .beq => some p.z
  | .bne => some (!p.z)
  | .bmi => some p.n
  | .bpl => some (!p.n)
  | .bcc => some (!p.c)
  | .bcs => some p.c
  | .bvc => some (!p.v)
  | .bvs => some p.v
  | _ => none

/-- The three stack addresses an exception writes are RAM (R236, R272). -/
def StackRam (s : State) : Prop :=
  s.kindAt (stackAddr s.sp) = .ram ∧ s.kindAt (stackAddr (s.sp - 1)) = .ram ∧
    s.kindAt (stackAddr (s.sp - 2)) = .ram

/-- A BRK that a pending NMI captures, by the environment's choice (R242; log 10). -/
def Captured (i : Instr) (s : State) : Prop := i.mnemonic = .brk ∧ s.nmiPending = true ∧ s.brkNmi = true

/-- What an exception leaves on a RAM stack: the return address high byte first, then the status byte (R176, R236). -/
def Framed (s t : State) (ret : Word) (brk : Bool) : Prop :=
  t.peek (stackAddr s.sp) = hi ret ∧ t.peek (stackAddr (s.sp - 1)) = lo ret ∧
    t.peek (stackAddr (s.sp - 2)) = statusByte s.p brk

/-- Everything an exception entry leaves alone (R236): A, X, Y, the map, the script and the line. -/
def EntryKeeps (s t : State) : Prop :=
  t.a = s.a ∧ t.x = s.x ∧ t.y = s.y ∧ t.memMap = s.memMap ∧ t.inputs = s.inputs ∧ t.irqLine = s.irqLine ∧
    t.brkNmi = s.brkNmi

/-- The whole of an exception entry (R176, R236), whatever the map says of the stack and the vector: three pushes, I set,
PC from the vector; the latch and what R242 remembers are left open here. -/
def Entered (s t : State) (ret : Word) (brk : Bool) (vector : Word) : Prop :=
  let pushed := ((s.push (hi ret)).push (lo ret)).push (statusByte s.p brk)
  let target := pushed.read16 vector
  t = { target.2 with
    p := { s.p with i := true }
    pc := target.1
    nmiPending := t.nmiPending
    nmiHeld := t.nmiHeld
    irqHeld := t.irqHeld
    irqLate := t.irqLate }

/-- What MemoryMap says of an address: the kind of the first region that holds it, RAM where none does (R5; log 11). -/
def mapSays (m : MemoryMap) (a : Word) : RegionKind :=
  match m.find? (fun r => decide (r.first.toNat ≤ a.toNat ∧ a.toNat ≤ r.last.toNat)) with
  | some r => r.kind
  | none => .ram

/-- The byte a read-modify-write instruction stores, with its address: `f` of the old byte, modulo 256 (R166). -/
def rewritten (m : MemForm) (s : State) (f : Nat → Nat) : List (Word × Byte) :=
  let e := effAddr m (s.advance (memLength m))
  [(e.1, BitVec.ofNat 8 (f (e.2.memRead e.1).1.toNat))]

/-- The bytes an instruction stores, each with its address, in the order of `storesTo` (R110, R131, R133, R135, R160 to
R166, R172, R176, R179, R181). -/
def storedBytes (i : Instr) (s : State) : List (Word × Byte) :=
  let stored (m : MemForm) (v : Byte) : List (Word × Byte) := [((effAddr m (s.advance (memLength m))).1, v)]
  match i.mnemonic, i.operand with
  | .sta, .data (.mem m) => stored m s.a
  | .stx, .data (.mem m) => stored m s.x
  | .sty, .data (.mem m) => stored m s.y
  | .asl, .data (.mem m) => rewritten m s (fun n => 2 * n)
  | .lsr, .data (.mem m) => rewritten m s (fun n => n / 2)
  | .rol, .data (.mem m) => rewritten m s (fun n => 2 * n + s.p.c.toNat)
  | .ror, .data (.mem m) => rewritten m s (fun n => n / 2 + 128 * s.p.c.toNat)
  | .inc, .data (.mem m) => rewritten m s (fun n => n + 1)
  | .dec, .data (.mem m) => rewritten m s (fun n => n + 255)
  | .jsr, _ => [(stackAddr s.sp, hi (s.pc + 2)), (stackAddr (s.sp - 1), lo (s.pc + 2))]
  | .brk, _ => [(stackAddr s.sp, hi (s.pc + 2)), (stackAddr (s.sp - 1), lo (s.pc + 2)),
      (stackAddr (s.sp - 2), statusByte s.p true)]
  | .php, _ => [(stackAddr s.sp, statusByte s.p true)]
  | .pha, _ => [(stackAddr s.sp, s.a)]
  | _, _ => []

/-- The bytes an interrupt entry pushes, each with its address (R236). -/
def entryBytes (s : State) : List (Word × Byte) :=
  [(stackAddr s.sp, hi s.pc), (stackAddr (s.sp - 1), lo s.pc), (stackAddr (s.sp - 2), statusByte s.p false)]

/-- The addresses the coming step stores to: those of its instruction or of its interrupt entry, and for a reset those of
the instruction it abandons, if any (R7, R236, R250). -/
def stepStores (s : State) : List Word :=
  let fetched (u : State) : List Word :=
    match u.fetchDecode with
    | .ok (i, v) => storesTo i v
    | .error _ => []
  match s.boundaryEvent with
  | .instruction => fetched s.sampled.beginInstruction
  | .nmi | .irq => (entryBytes s).map Prod.fst
  | .reset => if s.boundaryInput.resetInside then fetched s.sampled else []

/-- `u` is reached from `t` by steps of which none stores to `a`. -/
inductive ReachedLeaving (a : Word) : State → State → Prop where
  | refl (t : State) : ReachedLeaving a t t
  | step {t u w : State} : ReachedLeaving a t u → a ∉ stepStores u → Machine.step u = .next w → ReachedLeaving a t w

/-- In `u` every read of `a` gives `v` and changes nothing, and `v` is the byte at `a` in every instruction fetch that
reaches there, whatever its PC, be it an opcode or an operand byte (R52, R62, R65). -/
def Seen (a : Word) (v : Byte) (u : State) : Prop :=
  u.memRead a = (v, u) ∧
  ∀ (b : Word) (k : Nat), b + BitVec.ofNat 16 k = a → k < (u.setPc b).fetchInstruction.1.length →
    (u.setPc b).fetchInstruction.1[k]? = some v

/-- A, X, Y, S and the five flags R270 leaves open are nine separate free values, none taken before the count `first`. -/
def DrawnRegisters (first : Nat) (t : State) : Prop :=
  ∃ ka kx ky ks kn kv kd kz kc : Nat,
    [ka, kx, ky, ks, kn, kv, kd, kz, kc].Nodup ∧
    (∀ k ∈ [ka, kx, ky, ks, kn, kv, kd, kz, kc], first ≤ k ∧ k < t.draws) ∧
    t.a = Config.drawByte ka ∧ t.x = Config.drawByte kx ∧ t.y = Config.drawByte ky ∧ t.sp = Config.drawByte ks ∧
    t.p.n = Config.drawBit kn ∧ t.p.v = Config.drawBit kv ∧ t.p.d = Config.drawBit kd ∧
    t.p.z = Config.drawBit kz ∧ t.p.c = Config.drawBit kc

end Sys2Proof.Claims

open Sys2Proof Sys2Proof.Machine Sys2Proof.Claims

/-! ### Encoding -/

/-- Decoding a byte string gives an instruction exactly when the string begins with that instruction's encoding
(R80 to R87): no bit of an encoding is dropped, no two encodings meet, and nothing else decodes. -/
def Obligations.DecodeEncodeAgree : Prop :=
  ∀ (bytes rest : List Byte) (i : Instr), decode bytes = .ok (i, rest) ↔ bytes = encode i ++ rest

/-- Six words written out from R85, R86, R87 and R98, one for each shape of operand. -/
def Obligations.WordsOfTheCardDecode : Prop :=
  decode [0xA9, 0x10] = .ok (.ldaImm 0x10, []) ∧
  decode [0x8D, 0x34, 0x12] = .ok (.staAbs 0x1234, []) ∧
  decode [0x96, 0x10] = .ok (.stxZpy 0x10, []) ∧
  decode [0x6C, 0x34, 0x12] = .ok (.jmpInd 0x1234, []) ∧
  decode [0x0A, 0xFF] = .ok (.aslAcc, [0xFF]) ∧
  decode [0xD0, 0xFD] = .ok (.bne 0xFD, [])

/-- R95: the undefined opcodes are the 105 listed bytes and no other, and a step that fetches one is the model fault
UndefinedOpcode with the byte and its address. -/
def Obligations.UndefinedOpcodesFault : Prop :=
  undefinedOpcodes.length = 105 ∧ undefinedOpcodes.Nodup ∧
  (∀ opc : Byte, formOf opc = none ↔ opc ∈ undefinedOpcodes) ∧
  ∀ s : State, s.boundaryEvent = .instruction →
    (s.sampled.beginInstruction.memRead s.pc).1 ∈ undefinedOpcodes →
    step s = .fault (.undefinedOpcode (s.sampled.beginInstruction.memRead s.pc).1 s.pc)

/-! ### The step -/

/-- The step runs the decoded instruction (R7): at a boundary that leads to an instruction, when the bytes from PC on that
the instruction occupies are RAM or ROM and decode to `i`, the step is `exec i` on the state after the inputs were sampled
and fairness noted what it passed over. That state is `s` but for seven fields: the script moves on, the line takes the level
of this boundary, the NMI latch is set by an edge and otherwise kept (R33, R34, R232; the script is the model's, log 7), the
choice for a BRK is this boundary's (log 10), and what is pending or asserted with I = 0 is noted as passed over (log 8, log
9). A reset or an interrupt entry starts from the sampled state. -/
def Obligations.StepRunsDecodedInstruction : Prop :=
  (∀ s : State,
    s.boundaryInput = s.inputs.head?.getD ⟨s.irqLine, false, false, false, true, false⟩ ∧
    s.sampled = { s with
      inputs := s.inputs.tail
      irqLine := s.boundaryInput.irqLine
      nmiPending := s.nmiPending || s.boundaryInput.nmiEdge
      brkNmi := s.boundaryInput.brkNmi } ∧
    s.sampled.beginInstruction = { s.sampled with
      nmiHeld := s.nmiPending || s.boundaryInput.nmiEdge
      irqHeld := s.boundaryInput.irqLine && !s.p.i
      irqLate := false }) ∧
  ∀ (s : State) (i : Instr) (rest : List Byte),
    s.boundaryEvent = .instruction →
    (∀ k < i.operand.mode.length, Stored s (s.pc + BitVec.ofNat 16 k)) →
    decode [s.peek s.pc, s.peek (s.pc + 1), s.peek (s.pc + 2)] = .ok (i, rest) →
    step s = exec i s.sampled.beginInstruction

/-- Fetching reads with MemRead and changes nothing else (R7, R65): whatever stands at PC, when the fetched bytes decode,
the step is `exec` of that instruction on a state that differs from the sampled one in draws and events alone. -/
def Obligations.FetchOnlyReads : Prop :=
  ∀ (s t : State) (i : Instr), s.boundaryEvent = .instruction →
    s.sampled.beginInstruction.fetchDecode = .ok (i, t) →
    step s = exec i t ∧
    t = { s.sampled.beginInstruction with draws := t.draws, events := t.events }

/-- No instruction is refused, and the one that can fault is JSR, exactly where R172 says: every other execution completes
(R230, R231). -/
def Obligations.OnlyJsrCanFault : Prop :=
  ∀ (i : Instr) (s : State),
    (i.mnemonic = .jsr → (s.pc + 2 = stackAddr s.sp ∨ s.pc + 2 = stackAddr (s.sp - 1)) →
      exec i s = .fault .jsrOperandOnStack) ∧
    (¬ (i.mnemonic = .jsr ∧ (s.pc + 2 = stackAddr s.sp ∨ s.pc + 2 = stackAddr (s.sp - 1))) →
      ∃ t, exec i s = .next t)

/-! ### Invariants and whole-machine rules -/

/-- Every step keeps the invariant. -/
def Obligations.StepKeepsInvariant : Prop :=
  ∀ s t : State, s.Inv → step s = .next t → t.Inv

/-- The state after reset meets the invariant. -/
def Obligations.ResetMeetsInvariant : Prop := State.reset.Inv

/-- No step changes the memory map, and no step changes a byte that the map does not call RAM (R53). -/
def Obligations.RomAndMapNeverChange : Prop :=
  ∀ s t : State, step s = .next t →
    t.memMap = s.memMap ∧ ∀ a : Word, s.kindAt a ≠ .ram → t.peek a = s.peek a

/-- An instruction changes memory only at the addresses it stores to: its effective address for the stores and the
read-modify-write instructions, the stack addresses for the pushes, and nowhere for every other instruction
(R110, R166, R172, R176, R179, R181). -/
def Obligations.MemoryChangesOnlyAtStores : Prop :=
  ∀ (i : Instr) (s t : State), exec i s = .next t →
    ∀ a : Word, a ∉ storesTo i s → t.peek a = s.peek a

/-- A whole step changes a byte of memory only where the instruction it runs stores, or, for an interrupt entry, at the
three stack bytes it pushes; a reset at a boundary changes none, and one in the middle of an instruction only bytes that
instruction stores (R62, R236, R250, R270). -/
def Obligations.StepMemoryFrame : Prop :=
  ∀ (s t : State) (a : Word), step s = .next t → t.peek a ≠ s.peek a →
    (s.boundaryEvent = .instruction ∧
      ∃ i u, s.sampled.beginInstruction.fetchDecode = .ok (i, u) ∧ a ∈ storesTo i u) ∨
    ((s.boundaryEvent = .nmi ∨ s.boundaryEvent = .irq) ∧
      a ∈ [stackAddr s.sp, stackAddr (s.sp - 1), stackAddr (s.sp - 2)]) ∨
    (s.boundaryEvent = .reset ∧ s.boundaryInput.resetInside = true ∧
      ∃ i u, s.sampled.fetchDecode = .ok (i, u) ∧ a ∈ storesTo i u)

/-- PC is written, other than by sequential advance, only by JMP, JSR, RTS, RTI, BRK and the branches (R24). -/
def Obligations.OtherInstructionsAdvancePc : Prop :=
  ∀ (i : Instr) (s t : State), writesPc i.mnemonic = false → exec i s = .next t → t.pc = nextPc i s

/-- A flag not listed for an instruction in R26 is not written by it. -/
def Obligations.UnlistedFlagsUnchanged : Prop :=
  ∀ (i : Instr) (s t : State), exec i s = .next t →
    ((flagsWritten i.mnemonic).n = false → t.p.n = s.p.n) ∧
    ((flagsWritten i.mnemonic).v = false → t.p.v = s.p.v) ∧
    ((flagsWritten i.mnemonic).d = false → t.p.d = s.p.d) ∧
    ((flagsWritten i.mnemonic).i = false → t.p.i = s.p.i) ∧
    ((flagsWritten i.mnemonic).z = false → t.p.z = s.p.z) ∧
    ((flagsWritten i.mnemonic).c = false → t.p.c = s.p.c)

/-- A, X and Y change only by the instructions R20 and R21 list, and S by TXS and, by their number of bytes, by the
pushes and pulls (R22). -/
def Obligations.UnlistedRegistersUnchanged : Prop :=
  ∀ (i : Instr) (s t : State), exec i s = .next t →
    (writesA i = false → t.a = s.a) ∧
    (writesX i.mnemonic = false → t.x = s.x) ∧
    (writesY i.mnemonic = false → t.y = s.y) ∧
    (i.mnemonic ≠ .txs → t.sp = s.sp + stackMove i.mnemonic)

/-- No instruction touches the environment's inputs, the map or what fairness remembers of IRQ. The NMI latch, and what
fairness remembers of it, change only by a BRK that a pending NMI captures, which clears both (R34, R242; the choice is log
10); what R242 notes of SEI and PLP changes only by those two (log 9). -/
def Obligations.InputsUntouchedByInstructions : Prop :=
  ∀ (i : Instr) (s t : State), exec i s = .next t →
    t.irqLine = s.irqLine ∧ t.inputs = s.inputs ∧ t.memMap = s.memMap ∧ t.irqHeld = s.irqHeld ∧
    t.brkNmi = s.brkNmi ∧
    (¬ Captured i s → t.nmiPending = s.nmiPending ∧ t.nmiHeld = s.nmiHeld) ∧
    (Captured i s → t.nmiPending = false ∧ t.nmiHeld = false) ∧
    (i.mnemonic ≠ .sei → i.mnemonic ≠ .plp → t.irqLate = s.irqLate)

/-- Decimal mode affects ADC and SBC only (R25, R155): an instruction that neither reads nor writes D does the same
whatever D holds, and leaves D as it was. -/
def Obligations.DecimalModeAffectsOnlyAdcSbc : Prop :=
  ∀ (i : Instr) (s : State) (d : Bool), usesD i.mnemonic = false →
    exec i (withD d s) = outcomeWithD d (exec i s)

/-! ### Memory and addressing -/

/-- MemRead (R52) and what the map says of an address (R5): the kind of the first region that holds it, RAM where none
does; RAM and ROM give the stored byte and nothing changes; a device or absent address gives a fresh draw, and a device
with read side effects records the read. The first region counting and the default RAM are the model's choice (log 11), the
counter that makes each draw fresh is too (log 4), and so is the event that carries the byte drawn (log 12). -/
def Obligations.MemReadFollowsMap : Prop :=
  ∀ (s : State) (a : Word),
    s.kindAt a = mapSays s.memMap a ∧
    (s.kindAt a = .ram ∨ s.kindAt a = .rom → s.memRead a = (s.peek a, s)) ∧
    (s.kindAt a = .absent ∨ s.kindAt a = .device false →
      s.memRead a = (Config.drawByte s.draws, { s with draws := s.draws + 1 })) ∧
    (s.kindAt a = .device true →
      s.memRead a = (Config.drawByte s.draws,
        { s with draws := s.draws + 1, events := s.events ++ [.read a (Config.drawByte s.draws)] }))

/-- MemWrite (R53) and what the map says of an address (R5; the first region that holds it, RAM where none does: the
model's choice, log 11): a write to RAM sets that byte and no other; a write to ROM or to an absent address changes nothing;
a write to a device is an event handed to the environment (the list of events is the model's, log 12). -/
def Obligations.MemWriteFollowsMap : Prop :=
  ∀ (s : State) (a : Word) (v : Byte),
    s.kindAt a = mapSays s.memMap a ∧
    (s.kindAt a = .ram →
      (s.memWrite a v).peek a = v ∧ (∀ k : Word, k ≠ a → (s.memWrite a v).peek k = s.peek k) ∧
      s.memWrite a v = { s with mem := (s.memWrite a v).mem }) ∧
    (s.kindAt a = .rom ∨ s.kindAt a = .absent → s.memWrite a v = s) ∧
    (∀ r, s.kindAt a = .device r → s.memWrite a v = { s with events := s.events ++ [.write a v] })

/-- A byte stored to RAM is seen by every later read and by every later instruction fetch, opcode or operand byte, the very
next one included, until a step stores to its address again (R62, R65). Said for every instruction that stores, by its
operand or by a push, and for an interrupt entry; `storedBytes` names every address an instruction stores to. -/
def Obligations.StoreIsSeenByNextFetch : Prop :=
  (∀ (i : Instr) (s : State), (storedBytes i s).map Prod.fst = storesTo i s) ∧
  (∀ (i : Instr) (s t u : State) (a : Word) (v : Byte), exec i s = .next t → (a, v) ∈ storedBytes i s →
    s.kindAt a = .ram → ReachedLeaving a t u → Seen a v u) ∧
  ∀ (s t u : State) (a : Word) (v : Byte), s.boundaryEvent = .nmi ∨ s.boundaryEvent = .irq → step s = .next t →
    (a, v) ∈ entryBytes s → s.kindAt a = .ram → ReachedLeaving a t u → Seen a v u

/-- `Operand(mode)` (R110, R111): an immediate operand is the second byte and accesses no memory, any other is one MemRead
at the effective address; and the effective addresses of R112 to R119, with 8-bit sums in page 0, 16-bit sums elsewhere, and
the carry of (IND,Y) into the high byte; the lengths of these modes; IMM belongs to eleven mnemonics only, Z.PAGE,Y to LDX
(B6) and STX (96) only. -/
def Obligations.EffectiveAddresses : Prop :=
  (∀ (s : State) (b1 : Byte), readSource (.imm b1) s = (b1, s)) ∧
  (∀ (s : State) (m : MemForm), readSource (.mem m) s = (effAddr m s).2.memRead (effAddr m s).1) ∧
  (∀ i : Instr, i.operand.mode = .imm →
    i.mnemonic ∈ [.lda, .ldx, .ldy, .and, .ora, .eor, .cmp, .cpx, .cpy, .adc, .sbc]) ∧
  (∀ m ∈ [Mode.imm, .zp, .zpx, .zpy, .indx, .indy], m.length = 2) ∧ (∀ m ∈ [Mode.abs, .absx, .absy], m.length = 3) ∧
  (∀ i : Instr, i.operand.mode = .zpy →
    (i.mnemonic = .ldx ∧ i.opcode = 0xB6) ∨ (i.mnemonic = .stx ∧ i.opcode = 0x96)) ∧
  ∀ (s : State) (b1 b2 : Byte),
    effAddr (.zp b1) s = (BitVec.ofNat 16 b1.toNat, s) ∧
    effAddr (.zpx b1) s = (BitVec.ofNat 16 ((b1.toNat + s.x.toNat) % 256), s) ∧
    effAddr (.zpy b1) s = (BitVec.ofNat 16 ((b1.toNat + s.y.toNat) % 256), s) ∧
    effAddr (.abs (word b2 b1)) s = (BitVec.ofNat 16 (b2.toNat * 256 + b1.toNat), s) ∧
    effAddr (.absx (word b2 b1)) s =
      (BitVec.ofNat 16 ((b2.toNat * 256 + b1.toNat + s.x.toNat) % 65536), s) ∧
    effAddr (.absy (word b2 b1)) s =
      (BitVec.ofNat 16 ((b2.toNat * 256 + b1.toNat + s.y.toNat) % 65536), s) ∧
    (let z := (b1.toNat + s.x.toNat) % 256
     let l := s.memRead (BitVec.ofNat 16 z)
     let h := l.2.memRead (BitVec.ofNat 16 ((z + 1) % 256))
     effAddr (.indx b1) s = (BitVec.ofNat 16 (l.1.toNat + h.1.toNat * 256), h.2)) ∧
    (let l := s.memRead (BitVec.ofNat 16 b1.toNat)
     let h := l.2.memRead (BitVec.ofNat 16 ((b1.toNat + 1) % 256))
     let loSum := l.1.toNat + s.y.toNat
     let eaLo := loSum % 256
     let eaHi := (h.1.toNat + loSum / 256) % 256
     effAddr (.indy b1) s = (BitVec.ofNat 16 (eaHi * 256 + eaLo), h.2))

/-- Z.PAGE, Z.PAGE,X and Z.PAGE,Y reach only page 0, and pushes and pulls reach only page 1 (R31, R50). -/
def Obligations.ZeroPageAndStackConfined : Prop :=
  ∀ (s : State) (b : Byte),
    (effAddr (.zp b) s).1.toNat < 256 ∧ (effAddr (.zpx b) s).1.toNat < 256 ∧
    (effAddr (.zpy b) s).1.toNat < 256 ∧
    256 ≤ (stackAddr b).toNat ∧ (stackAddr b).toNat < 512

/-- An indexed address crosses a page exactly when `lo(base) + index > 0xFF` (R124). -/
def Obligations.PageCrossedIffCarry : Prop :=
  ∀ (base : Word) (index : Byte), pageCrossed base index = true ↔ (lo base).toNat + index.toNat > 0xFF

/-! ### Loads and stores -/

/-- LDA, LDX, LDY (R130, R132, R134): the opcodes; the register takes the operand, N and Z follow it, and nothing else
changes but PC and what reading the operand changes. -/
def Obligations.LoadResults : Prop :=
  EncodingsAre .lda [⟨.imm, 0xA9, 2, false⟩, ⟨.zp, 0xA5, 3, false⟩, ⟨.zpx, 0xB5, 4, false⟩, ⟨.abs, 0xAD, 4, false⟩,
    ⟨.absx, 0xBD, 4, true⟩, ⟨.absy, 0xB9, 4, true⟩, ⟨.indx, 0xA1, 6, false⟩, ⟨.indy, 0xB1, 5, true⟩] ∧
  EncodingsAre .ldx [⟨.imm, 0xA2, 2, false⟩, ⟨.zp, 0xA6, 3, false⟩, ⟨.zpy, 0xB6, 4, false⟩, ⟨.abs, 0xAE, 4, false⟩,
    ⟨.absy, 0xBE, 4, true⟩] ∧
  EncodingsAre .ldy [⟨.imm, 0xA0, 2, false⟩, ⟨.zp, 0xA4, 3, false⟩, ⟨.zpx, 0xB4, 4, false⟩, ⟨.abs, 0xAC, 4, false⟩,
    ⟨.absx, 0xBC, 4, true⟩] ∧
  ∀ (i : Instr) (src : Source) (s : State), i.operand = .data src →
    let m := readSource src (s.advance i.operand.mode.length)
    (i.mnemonic = .lda → exec i s = .next { m.2 with a := m.1, p := withNZ s.p m.1, pc := nextPc i s }) ∧
    (i.mnemonic = .ldx → exec i s = .next { m.2 with x := m.1, p := withNZ s.p m.1, pc := nextPc i s }) ∧
    (i.mnemonic = .ldy → exec i s = .next { m.2 with y := m.1, p := withNZ s.p m.1, pc := nextPc i s })

/-- STA, STX, STY (R131, R133, R135): the opcodes; the register is written at the effective address, that byte of RAM
holds it, every other byte reads as before, and no register or flag changes. -/
def Obligations.StoreResults : Prop :=
  EncodingsAre .sta [⟨.zp, 0x85, 3, false⟩, ⟨.zpx, 0x95, 4, false⟩, ⟨.abs, 0x8D, 4, false⟩, ⟨.absx, 0x9D, 5, false⟩,
    ⟨.absy, 0x99, 5, false⟩, ⟨.indx, 0x81, 6, false⟩, ⟨.indy, 0x91, 6, false⟩] ∧
  EncodingsAre .stx [⟨.zp, 0x86, 3, false⟩, ⟨.zpy, 0x96, 4, false⟩, ⟨.abs, 0x8E, 4, false⟩] ∧
  EncodingsAre .sty [⟨.zp, 0x84, 3, false⟩, ⟨.zpx, 0x94, 4, false⟩, ⟨.abs, 0x8C, 4, false⟩] ∧
  ∀ (i : Instr) (m : MemForm) (s : State) (v : Byte), i.operand = .data (.mem m) →
    (i.mnemonic = .sta ∧ v = s.a) ∨ (i.mnemonic = .stx ∧ v = s.x) ∨ (i.mnemonic = .sty ∧ v = s.y) →
    let e := effAddr m (s.advance i.operand.mode.length)
    ∃ t, exec i s = .next t ∧ t = e.2.memWrite e.1 v ∧
      t.a = s.a ∧ t.x = s.x ∧ t.y = s.y ∧ t.sp = s.sp ∧ t.p = s.p ∧ t.pc = nextPc i s ∧
      ((s.kindAt e.1 = .ram → t.peek e.1 = v) ∧ ∀ k : Word, k ≠ e.1 → t.peek k = s.peek k)

/-! ### Logical and compare -/

/-- AND, ORA, EOR (R140, R141, R142): the opcodes; A takes the bitwise result, N and Z follow it. -/
def Obligations.LogicalResults : Prop :=
  EncodingsAre .and [⟨.imm, 0x29, 2, false⟩, ⟨.zp, 0x25, 3, false⟩, ⟨.zpx, 0x35, 4, false⟩, ⟨.abs, 0x2D, 4, false⟩,
    ⟨.absx, 0x3D, 4, true⟩, ⟨.absy, 0x39, 4, true⟩, ⟨.indx, 0x21, 6, false⟩, ⟨.indy, 0x31, 5, true⟩] ∧
  EncodingsAre .ora [⟨.imm, 0x09, 2, false⟩, ⟨.zp, 0x05, 3, false⟩, ⟨.zpx, 0x15, 4, false⟩, ⟨.abs, 0x0D, 4, false⟩,
    ⟨.absx, 0x1D, 4, true⟩, ⟨.absy, 0x19, 4, true⟩, ⟨.indx, 0x01, 6, false⟩, ⟨.indy, 0x11, 5, true⟩] ∧
  EncodingsAre .eor [⟨.imm, 0x49, 2, false⟩, ⟨.zp, 0x45, 3, false⟩, ⟨.zpx, 0x55, 4, false⟩, ⟨.abs, 0x4D, 4, false⟩,
    ⟨.absx, 0x5D, 4, true⟩, ⟨.absy, 0x59, 4, true⟩, ⟨.indx, 0x41, 6, false⟩, ⟨.indy, 0x51, 5, true⟩] ∧
  ∀ (i : Instr) (src : Source) (s : State), i.operand = .data src →
    let m := readSource src (s.advance i.operand.mode.length)
    (i.mnemonic = .and →
      exec i s = .next { m.2 with a := s.a &&& m.1, p := withNZ s.p (s.a &&& m.1), pc := nextPc i s }) ∧
    (i.mnemonic = .ora →
      exec i s = .next { m.2 with a := s.a ||| m.1, p := withNZ s.p (s.a ||| m.1), pc := nextPc i s }) ∧
    (i.mnemonic = .eor →
      exec i s = .next { m.2 with a := s.a ^^^ m.1, p := withNZ s.p (s.a ^^^ m.1), pc := nextPc i s })

/-- BIT (R143): Z from the AND, N and V from bits 7 and 6 of the memory byte itself; A, C, I and D unchanged; no
instruction but BIT, ADC, SBC, CLV, PLP and RTI writes V. -/
def Obligations.BitResult : Prop :=
  EncodingsAre .bit [⟨.zp, 0x24, 3, false⟩, ⟨.abs, 0x2C, 4, false⟩] ∧
  (∀ (i : Instr) (s t : State), i.mnemonic ∉ [.bit, .adc, .sbc, .clv, .plp, .rti] → exec i s = .next t → t.p.v = s.p.v) ∧
  ∀ (i : Instr) (m : MemForm) (s : State), i.mnemonic = .bit → i.operand = .data (.mem m) →
    let e := effAddr m (s.advance i.operand.mode.length)
    let r := e.2.memRead e.1
    exec i s = .next { r.2 with
      p := { s.p with z := decide (s.a &&& r.1 = 0#8), n := r.1.getLsbD 7, v := r.1.getLsbD 6 }
      pc := nextPc i s }

/-- CMP, CPX, CPY (R144 to R147): C is the unsigned comparison register ≥ operand, Z equality, N bit 7 of the difference
modulo 256; the register and V are unchanged and D has no effect. -/
def Obligations.CompareResults : Prop :=
  EncodingsAre .cmp [⟨.imm, 0xC9, 2, false⟩, ⟨.zp, 0xC5, 3, false⟩, ⟨.zpx, 0xD5, 4, false⟩, ⟨.abs, 0xCD, 4, false⟩,
    ⟨.absx, 0xDD, 4, true⟩, ⟨.absy, 0xD9, 4, true⟩, ⟨.indx, 0xC1, 6, false⟩, ⟨.indy, 0xD1, 5, true⟩] ∧
  EncodingsAre .cpx [⟨.imm, 0xE0, 2, false⟩, ⟨.zp, 0xE4, 3, false⟩, ⟨.abs, 0xEC, 4, false⟩] ∧
  EncodingsAre .cpy [⟨.imm, 0xC0, 2, false⟩, ⟨.zp, 0xC4, 3, false⟩, ⟨.abs, 0xCC, 4, false⟩] ∧
  ∀ (i : Instr) (src : Source) (s : State) (reg : Byte), i.operand = .data src →
    (i.mnemonic = .cmp ∧ reg = s.a) ∨ (i.mnemonic = .cpx ∧ reg = s.x) ∨ (i.mnemonic = .cpy ∧ reg = s.y) →
    let m := readSource src (s.advance i.operand.mode.length)
    let d := (reg.toNat + 256 - m.1.toNat) % 256
    exec i s = .next { m.2 with
      p := { s.p with c := decide (reg.toNat ≥ m.1.toNat), z := decide (reg = m.1), n := decide (128 ≤ d) }
      pc := nextPc i s }

/-! ### Arithmetic -/

/-- ADC and SBC (R150, R151, R153, R154, R156): the encodings; with D = 0 the binary sum of A, the operand (for SBC its
complement) and C, with the flags by R152; with D = 1, on BCD operands, the decimal sum or difference with its carry or
absence of borrow in C, and on others free values in A and C; N, V and Z are free values whenever D = 1; D and I, the
other registers and memory are as reading the operand left them. That the decimal forms take five free values, in the order
N, V, Z, A, C, is the model's choice (log 5). -/
def Obligations.AdcSbcResults : Prop :=
  EncodingsAre .adc [⟨.imm, 0x69, 2, false⟩, ⟨.zp, 0x65, 3, false⟩, ⟨.zpx, 0x75, 4, false⟩, ⟨.abs, 0x6D, 4, false⟩,
    ⟨.absx, 0x7D, 4, true⟩, ⟨.absy, 0x79, 4, true⟩, ⟨.indx, 0x61, 6, false⟩, ⟨.indy, 0x71, 5, true⟩] ∧
  EncodingsAre .sbc [⟨.imm, 0xE9, 2, false⟩, ⟨.zp, 0xE5, 3, false⟩, ⟨.zpx, 0xF5, 4, false⟩, ⟨.abs, 0xED, 4, false⟩,
    ⟨.absx, 0xFD, 4, true⟩, ⟨.absy, 0xF9, 4, true⟩, ⟨.indx, 0xE1, 6, false⟩, ⟨.indy, 0xF1, 5, true⟩] ∧
  (∀ (i : Instr) (src : Source) (s : State) (m : Byte), i.operand = .data src → s.p.d = false →
    let o := readSource src (s.advance i.operand.mode.length)
    (i.mnemonic = .adc ∧ m = o.1) ∨ (i.mnemonic = .sbc ∧ m = o.1 ^^^ 0xFF#8) →
    let sum := s.a.toNat + m.toNat + s.p.c.toNat
    let r := BitVec.ofNat 8 (sum % 256)
    exec i s = .next { o.2 with
      a := r
      p := { s.p with
        c := decide (sum / 256 = 1)
        v := ((s.a ^^^ r) &&& (m ^^^ r)).getLsbD 7
        n := r.getLsbD 7
        z := decide (r = 0#8) }
      pc := nextPc i s }) ∧
  ∀ (i : Instr) (src : Source) (s : State), i.operand = .data src → s.p.d = true →
    let o := readSource src (s.advance i.operand.mode.length)
    let k := o.2.draws
    let bcdOperands := BcdByte s.a ∧ BcdByte o.1
    let plus := decValue s.a + decValue o.1 + (s.p.c.toNat : Int)
    let minus := decValue s.a - decValue o.1 - (1 - (s.p.c.toNat : Int))
    (i.mnemonic = .adc ∨ i.mnemonic = .sbc) →
    ∃ (r : Byte) (c : Bool),
      exec i s = .next { o.2 with
        a := r
        p := { s.p with n := Config.drawBit k, v := Config.drawBit (k + 1), z := Config.drawBit (k + 2), c := c }
        pc := nextPc i s
        draws := k + 5 } ∧
      (¬ bcdOperands → r = Config.drawByte (k + 3) ∧ c = Config.drawBit (k + 4)) ∧
      (bcdOperands → i.mnemonic = .adc → r = bcdOf (plus % 100) ∧ c = decide (100 ≤ plus)) ∧
      (bcdOperands → i.mnemonic = .sbc → r = bcdOf (minus % 100) ∧ c = decide (0 ≤ minus))

/-- AddBinary (R152): the sum modulo 256, C its carry out of bit 7, V by the sign formula, N and Z from the result; V is
signed overflow, and with the complement of a byte it is signed overflow of the subtraction and C the absence of a
borrow. -/
def Obligations.AddBinaryIsSignedAndUnsigned : Prop :=
  ∀ (p : Status) (a m : Byte) (c : Bool),
    let sum := a.toNat + m.toNat + c.toNat
    let r := addBinaryResult a m c
    let f := addBinaryFlags p a m c
    let g := addBinaryFlags p a (m ^^^ 0xFF#8) c
    r.toNat = sum % 256 ∧ f.c.toNat = sum / 256 ∧ f.v = ((a ^^^ r) &&& (m ^^^ r)).getLsbD 7 ∧
    f.n = r.getLsbD 7 ∧ f.z = decide (r = 0#8) ∧ f.d = p.d ∧ f.i = p.i ∧
    (f.v = true ↔ signed a + signed m + (c.toNat : Int) < -128 ∨ 127 < signed a + signed m + (c.toNat : Int)) ∧
    (g.v = true ↔
      signed a - signed m - (1 - (c.toNat : Int)) < -128 ∨ 127 < signed a - signed m - (1 - (c.toNat : Int))) ∧
    g.c = decide (0 ≤ (a.toNat : Int) - (m.toNat : Int) - (1 - (c.toNat : Int)))

/-- The decimal sum is right as arithmetic: for BCD bytes the result is a BCD byte, and its value with the carry as
hundreds is the sum (R153). -/
def Obligations.DecimalSumIsArithmetic : Prop :=
  ∀ (a m : Byte) (c : Bool) (d : DecimalDraws), isBcd a = true → isBcd m = true →
    let r := addDecimal a m c d
    isBcd r.1 = true ∧ dec r.1 + 100 * r.2.toNat = dec a + dec m + c.toNat

/-- The decimal difference is right as arithmetic: for BCD bytes the result is a BCD byte, and its value less 100 for a
borrow is the difference (R154). -/
def Obligations.DecimalDifferenceIsArithmetic : Prop :=
  ∀ (a m : Byte) (c : Bool) (d : DecimalDraws), isBcd a = true → isBcd m = true →
    let r := subDecimal a m c d
    isBcd r.1 = true ∧
    (dec r.1 : Int) - 100 * (1 - (r.2.toNat : Int)) = (dec a : Int) - (dec m : Int) - (1 - (c.toNat : Int))

/-! ### Shift, increment and decrement -/

/-- ASL, LSR, ROL, ROR, INC, DEC (R160 to R166): the encodings; the ACCUM. forms rewrite A and touch no memory; the memory
forms make one read and one write at the one effective address and change no register; the new byte as arithmetic of the
old, N and Z from it, C the bit shifted out by a shift and unchanged by INC and DEC; every other byte reads as before. -/
def Obligations.ShiftIncDecResults : Prop :=
  EncodingsAre .asl [⟨.zp, 0x06, 5, false⟩, ⟨.zpx, 0x16, 6, false⟩, ⟨.abs, 0x0E, 6, false⟩, ⟨.absx, 0x1E, 7, false⟩,
    ⟨.acc, 0x0A, 2, false⟩] ∧
  EncodingsAre .lsr [⟨.zp, 0x46, 5, false⟩, ⟨.zpx, 0x56, 6, false⟩, ⟨.abs, 0x4E, 6, false⟩, ⟨.absx, 0x5E, 7, false⟩,
    ⟨.acc, 0x4A, 2, false⟩] ∧
  EncodingsAre .rol [⟨.zp, 0x26, 5, false⟩, ⟨.zpx, 0x36, 6, false⟩, ⟨.abs, 0x2E, 6, false⟩, ⟨.absx, 0x3E, 7, false⟩,
    ⟨.acc, 0x2A, 2, false⟩] ∧
  EncodingsAre .ror [⟨.zp, 0x66, 5, false⟩, ⟨.zpx, 0x76, 6, false⟩, ⟨.abs, 0x6E, 6, false⟩, ⟨.absx, 0x7E, 7, false⟩,
    ⟨.acc, 0x6A, 2, false⟩] ∧
  EncodingsAre .inc [⟨.zp, 0xE6, 5, false⟩, ⟨.zpx, 0xF6, 6, false⟩, ⟨.abs, 0xEE, 6, false⟩, ⟨.absx, 0xFE, 7, false⟩] ∧
  EncodingsAre .dec [⟨.zp, 0xC6, 5, false⟩, ⟨.zpx, 0xD6, 6, false⟩, ⟨.abs, 0xCE, 6, false⟩, ⟨.absx, 0xDE, 7, false⟩] ∧
  (∀ (i : Instr) (s : State) (r : Byte) (c : Bool), i.operand = .acc →
    (i.mnemonic = .asl ∧ r = BitVec.ofNat 8 (2 * s.a.toNat) ∧ c = s.a.getLsbD 7) ∨
    (i.mnemonic = .lsr ∧ r = BitVec.ofNat 8 (s.a.toNat / 2) ∧ c = s.a.getLsbD 0) ∨
    (i.mnemonic = .rol ∧ r = BitVec.ofNat 8 (2 * s.a.toNat + s.p.c.toNat) ∧ c = s.a.getLsbD 7) ∨
    (i.mnemonic = .ror ∧ r = BitVec.ofNat 8 (s.a.toNat / 2 + 128 * s.p.c.toNat) ∧ c = s.a.getLsbD 0) →
    exec i s = .next { s with
      a := r, p := { withNZ s.p r with c := c }, pc := nextPc i s }) ∧
  ∀ (i : Instr) (m : MemForm) (s : State) (new : Byte) (c : Bool), i.operand = .data (.mem m) →
    let e := effAddr m (s.advance i.operand.mode.length)
    let old := e.2.memRead e.1
    (i.mnemonic = .asl ∧ new = BitVec.ofNat 8 (2 * old.1.toNat) ∧ c = old.1.getLsbD 7) ∨
    (i.mnemonic = .lsr ∧ new = BitVec.ofNat 8 (old.1.toNat / 2) ∧ c = old.1.getLsbD 0) ∨
    (i.mnemonic = .rol ∧ new = BitVec.ofNat 8 (2 * old.1.toNat + s.p.c.toNat) ∧ c = old.1.getLsbD 7) ∨
    (i.mnemonic = .ror ∧ new = BitVec.ofNat 8 (old.1.toNat / 2 + 128 * s.p.c.toNat) ∧ c = old.1.getLsbD 0) ∨
    (i.mnemonic = .inc ∧ new = BitVec.ofNat 8 (old.1.toNat + 1) ∧ c = s.p.c) ∨
    (i.mnemonic = .dec ∧ new = BitVec.ofNat 8 (old.1.toNat + 255) ∧ c = s.p.c) →
    ∃ t, exec i s = .next t ∧
      t = { old.2.memWrite e.1 new with p := { withNZ s.p new with c := c }, pc := nextPc i s } ∧
      t.a = s.a ∧ t.x = s.x ∧ t.y = s.y ∧ t.sp = s.sp ∧
      ((s.kindAt e.1 = .ram → t.peek e.1 = new) ∧ ∀ k : Word, k ≠ e.1 → t.peek k = s.peek k)

/-! ### Jumps, returns and the stack -/

/-- JMP (R170, R171): ABS loads PC with the operand; INDIRECT loads it from the pointer, low byte first, the high byte
from the same page when the pointer ends a page; nothing else changes but by the reads. -/
def Obligations.JmpResults : Prop :=
  EncodingsAre .jmp [⟨.abs, 0x4C, 3, false⟩, ⟨.ind, 0x6C, 5, false⟩] ∧
  (∀ (w : Word) (s : State), exec (.jmpAbs w) s = .next { s with pc := w }) ∧
  ∀ (ptr : Word) (s : State),
    let l := (s.advance 3).memRead ptr
    let h := l.2.memRead ((ptr &&& 0xFF00#16) ||| ((ptr + 1) &&& 0x00FF#16))
    exec (.jmpInd ptr) s = .next { h.2 with pc := BitVec.ofNat 16 (h.1.toNat * 256 + l.1.toNat) }

/-- JSR (R172): refused by the model fault exactly when a stack byte it writes is its third byte; otherwise the address of
the third byte is pushed high byte first, S is 2 lower, PC is the target and no flag changes; on a RAM stack the two bytes
lie there, low byte lower. -/
def Obligations.JsrResult : Prop :=
  EncodingsAre .jsr [⟨.abs, 0x20, 6, false⟩] ∧
  ∀ (w : Word) (s : State),
    let third := s.pc + 2
    let clash := third = stackAddr s.sp ∨ third = stackAddr (s.sp - 1)
    (clash → exec (.jsr w) s = .fault .jsrOperandOnStack) ∧
    (¬ clash → ∃ t, exec (.jsr w) s = .next t ∧
      t = { ((s.push (hi third)).push (lo third)) with pc := w } ∧
      t.pc = w ∧ t.sp = s.sp - 2 ∧ t.p = s.p ∧ t.a = s.a ∧ t.x = s.x ∧ t.y = s.y ∧
      (s.kindAt (stackAddr s.sp) = .ram → s.kindAt (stackAddr (s.sp - 1)) = .ram →
        t.peek (stackAddr s.sp) = hi third ∧ t.peek (stackAddr (s.sp - 1)) = lo third) ∧
      (∀ k : Word, k ≠ stackAddr s.sp → k ≠ stackAddr (s.sp - 1) → t.peek k = s.peek k))

/-- RTS and RTI (R177, R178): RTS pulls PC low byte first and adds one; RTI pulls the six flags, then PC, and adds
nothing; S is 2 or 3 higher and nothing else changes but by the reads. -/
def Obligations.ReturnResults : Prop :=
  EncodingsAre .rts [⟨.imp, 0x60, 6, false⟩] ∧ EncodingsAre .rti [⟨.imp, 0x40, 6, false⟩] ∧
  ∀ s : State,
    (let l := (s.advance 1).pull
     let h := l.2.pull
     exec .rts s = .next { h.2 with pc := BitVec.ofNat 16 (h.1.toNat * 256 + l.1.toNat + 1) } ∧
     h.2.sp = s.sp + 2) ∧
    (let f := (s.advance 1).pull
     let l := f.2.pull
     let h := l.2.pull
     exec .rti s = .next { h.2 with
       p := pulledFlags f.1
       pc := BitVec.ofNat 16 (h.1.toNat * 256 + l.1.toNat) } ∧
     h.2.sp = s.sp + 3)

/-- JSR followed by RTS continues at the next executable address with S as it was (R172, R177). -/
def Obligations.JsrThenRtsResumes : Prop :=
  ∀ (w : Word) (s : State),
    s.kindAt (stackAddr s.sp) = .ram → s.kindAt (stackAddr (s.sp - 1)) = .ram →
    s.pc + 2 ≠ stackAddr s.sp → s.pc + 2 ≠ stackAddr (s.sp - 1) →
    ∃ t u, exec (.jsr w) s = .next t ∧ exec .rts t = .next u ∧ t.pc = w ∧
      u.pc = s.pc + 3 ∧ u.sp = s.sp ∧ u.p = s.p ∧ u.a = s.a ∧ u.x = s.x ∧ u.y = s.y

/-- The status byte (R29, R30): its value as the sum of its bits, bit 5 always 1 and bit 4 as asked; pulling it back gives
the six flags whatever bits 5 and 4 hold. -/
def Obligations.StatusByteLayout : Prop :=
  ∀ (p : Status) (b : Bool) (v : Byte),
    (statusByte p b).toNat = p.n.toNat * 128 + p.v.toNat * 64 + 32 + b.toNat * 16 + p.d.toNat * 8 + p.i.toNat * 4 +
      p.z.toNat * 2 + p.c.toNat ∧
    setStatus (statusByte p b) = p ∧
    setStatus v = setStatus (v ||| 0x30#8) ∧
    statusByte (setStatus v) b = (v &&& 0xCF#8) ||| (0x20#8 ||| (if b then 0x10#8 else 0x00#8))

/-- Push and Pull (R31): a push writes at 0x0100 + S and then lowers S, a pull raises S and then reads there, each modulo
256; on RAM a pull after a push gives the byte back with S as it was. -/
def Obligations.PushAndPull : Prop :=
  ∀ (s : State) (v : Byte),
    stackAddr s.sp = BitVec.ofNat 16 (0x0100 + s.sp.toNat) ∧
    s.push v = { s.memWrite (stackAddr s.sp) v with sp := s.sp - 1 } ∧
    (let r := ({ s with sp := s.sp + 1 } : State).memRead (stackAddr (s.sp + 1))
     s.pull = r) ∧
    (s.kindAt (stackAddr s.sp) = .ram →
      (s.push v).pull.1 = v ∧ (s.push v).pull.2.sp = s.sp)

/-- PHP, PLP, PHA, PLA (R179 to R182): PHP pushes the status byte with bits 5 and 4 set, PHA pushes A, neither changing a
flag; PLP pulls the six flags and PLA pulls A and sets N and Z. What PLP notes for R242 in `irqLate` is left open here. -/
def Obligations.StackInstructionResults : Prop :=
  EncodingsAre .php [⟨.imp, 0x08, 3, false⟩] ∧
  EncodingsAre .plp [⟨.imp, 0x28, 4, false⟩] ∧
  EncodingsAre .pha [⟨.imp, 0x48, 3, false⟩] ∧
  EncodingsAre .pla [⟨.imp, 0x68, 4, false⟩] ∧
  ∀ s : State,
    exec .php s = .next { s.push (statusByte s.p true) with pc := s.pc + 1 } ∧
    exec .pha s = .next { s.push s.a with pc := s.pc + 1 } ∧
    (let r := (s.advance 1).pull
     (∃ t, exec .plp s = .next t ∧
       t = { r.2 with p := pulledFlags r.1, irqLate := t.irqLate, pc := s.pc + 1 }) ∧
     exec .pla s = .next { r.2 with a := r.1, p := withNZ s.p r.1, pc := s.pc + 1 })

/-! ### BRK, interrupts and reset -/

/-- BRK (R176), when no pending NMI captures it (the environment's choice `brkNmi` of R242, log 10): PC + 2 of its own address is pushed high byte first, then the status byte
with bits 5 and 4 set and I as it was; I is set and no other flag; S is 3 lower; PC is read from 0xFFFE after the pushes,
low byte first; every other byte of memory, register and input is as before. -/
def Obligations.BrkResult : Prop :=
  EncodingsAre .brk [⟨.imp, 0x00, 7, false⟩] ∧
  ∀ s : State, (s.nmiPending && s.brkNmi) = false →
    ∃ t, exec .brk s = .next t ∧ Entered s t (s.pc + 2) true 0xFFFE#16 ∧
      t.p = { s.p with i := true } ∧ t.sp = s.sp - 3 ∧ EntryKeeps s t ∧ t.nmiPending = s.nmiPending ∧
      (StackRam s → Framed s t (s.pc + 2) true) ∧
      (Stored s 0xFFFE#16 → Stored s 0xFFFF#16 →
        t.pc = BitVec.ofNat 16 ((s.peek 0xFFFF#16).toNat * 256 + (s.peek 0xFFFE#16).toNat)) ∧
      (∀ k : Word, k ≠ stackAddr s.sp → k ≠ stackAddr (s.sp - 1) → k ≠ stackAddr (s.sp - 2) →
        t.peek k = s.peek k)

/-- A BRK that a pending NMI captures (R242; which BRK is captured is the environment's choice, log 10): the same pushes
with bit 4 = 1, I set, the latch cleared, and PC from 0xFFFA. -/
def Obligations.BrkCapturedByNmi : Prop :=
  ∀ s : State, (s.nmiPending && s.brkNmi) = true →
    ∃ t, exec .brk s = .next t ∧ Entered s t (s.pc + 2) true 0xFFFA#16 ∧
      t.p = { s.p with i := true } ∧ t.sp = s.sp - 3 ∧ EntryKeeps s t ∧ t.nmiPending = false ∧
      (StackRam s → Framed s t (s.pc + 2) true) ∧
      (Stored s 0xFFFA#16 → Stored s 0xFFFB#16 →
        t.pc = BitVec.ofNat 16 ((s.peek 0xFFFB#16).toNat * 256 + (s.peek 0xFFFA#16).toNat)) ∧
      (∀ k : Word, k ≠ stackAddr s.sp → k ≠ stackAddr (s.sp - 1) → k ≠ stackAddr (s.sp - 2) →
        t.peek k = s.peek k)

/-- NMI and IRQ entry (R236): at a boundary that leads to one, the step pushes PC high byte first and the status byte with
bit 4 = 0, sets I and no other flag, lowers S by 3 and loads PC from the vector; the NMI entry clears the latch, the IRQ
entry does not; it takes 7 cycles. -/
def Obligations.InterruptEntryResults : Prop :=
  entryCycles = 7 ∧
  ∀ (s : State) (vector : Word),
    (s.boundaryEvent = .nmi ∧ vector = 0xFFFA#16) ∨ (s.boundaryEvent = .irq ∧ vector = 0xFFFE#16) →
    ∃ t, step s = .next t ∧ Entered s.sampled t s.pc false vector ∧
      t.p = { s.p with i := true } ∧ t.sp = s.sp - 3 ∧ EntryKeeps s.sampled t ∧
      (s.boundaryEvent = .nmi → t.nmiPending = false) ∧
      (s.boundaryEvent = .irq → t.nmiPending = s.sampled.nmiPending) ∧
      (StackRam s → Framed s t s.pc false) ∧
      (Stored s vector → Stored s (vector + 1) →
        t.pc = BitVec.ofNat 16 ((s.peek (vector + 1)).toNat * 256 + (s.peek vector).toNat)) ∧
      (∀ k : Word, k ≠ stackAddr s.sp → k ≠ stackAddr (s.sp - 1) → k ≠ stackAddr (s.sp - 2) →
        t.peek k = s.peek k)

/-- A handler tells BRK from IRQ by bit 4 of the status byte on the stack, at 0x0100 + ((S + 1) mod 256): 1 after BRK, 0
after an IRQ entry (R241). -/
def Obligations.HandlerTellsBrkFromIrq : Prop :=
  ∀ s t : State, StackRam s →
    (exec .brk s = .next t → (t.peek (stackAddr (t.sp + 1))).getLsbD 4 = true) ∧
    (s.boundaryEvent = .irq → step s = .next t → (t.peek (stackAddr (t.sp + 1))).getLsbD 4 = false)

/-- An interrupt entry followed by RTI resumes the interrupted instruction with every register and flag as it was
(R238, R239). -/
def Obligations.EntryThenRtiResumes : Prop :=
  ∀ s : State, StackRam s → s.boundaryEvent = .nmi ∨ s.boundaryEvent = .irq →
    ∃ t u, step s = .next t ∧ exec .rti t = .next u ∧
      u.pc = s.pc ∧ u.p = s.p ∧ u.sp = s.sp ∧ u.a = s.a ∧ u.x = s.x ∧ u.y = s.y

/-- BRK followed by RTI continues at the BRK's address plus 2 with every flag as it was (R176, R239). -/
def Obligations.BrkThenRtiResumes : Prop :=
  ∀ s : State, StackRam s →
    ∃ t u, exec .brk s = .next t ∧ exec .rti t = .next u ∧
      u.pc = s.pc + 2 ∧ u.p = s.p ∧ u.sp = s.sp ∧ u.a = s.a ∧ u.x = s.x ∧ u.y = s.y

/-- The priority at a boundary (R235) and the relation of R242: a requested RESET; else a pending NMI, taken or passed over
by choice; else an asserted and admitted IRQ, taken or passed over by choice; else the next instruction. A source passed
over at the last boundary is taken (weak fairness). -/
def Obligations.BoundaryPriority : Prop :=
  ∀ s : State,
    let e := s.boundaryInput
    let nmi := s.nmiPending || e.nmiEdge
    let irq := e.irqLine && (!s.p.i || s.irqLate)
    (e.resetRequest = true → s.boundaryEvent = .reset) ∧
    (e.resetRequest = false → nmi = true → (e.takeNow = true ∨ s.nmiHeld = true) → s.boundaryEvent = .nmi) ∧
    (e.resetRequest = false → nmi = true → e.takeNow = false → s.nmiHeld = false →
      s.boundaryEvent = .instruction) ∧
    (e.resetRequest = false → nmi = false → irq = true →
      (e.takeNow = true ∨ (s.irqHeld = true ∧ s.p.i = false)) → s.boundaryEvent = .irq) ∧
    (e.resetRequest = false → nmi = false → irq = true → e.takeNow = false →
      (s.irqHeld = false ∨ s.p.i = true) → s.boundaryEvent = .instruction) ∧
    (e.resetRequest = false → nmi = false → irq = false → s.boundaryEvent = .instruction)

/-- I masks IRQ and nothing else (R233, R242). With I = 1 and `irqLate` false, whatever the level of the line, the boundary
never leads to an IRQ entry; an NMI is taken all the same. `irqLate`, the model's field for the latitude of R242 (log 9), is
false after every step but one that runs SEI or PLP: so after any other instruction, an interrupt entry or a reset that
leaves I = 1, the next boundary leads to no IRQ entry. -/
def Obligations.IrqMaskedByI : Prop :=
  (∀ s : State, s.p.i = true → s.irqLate = false →
    s.boundaryEvent ≠ .irq ∧
    (s.boundaryInput.resetRequest = false → s.boundaryInput.nmiEdge = true → s.boundaryInput.takeNow = true →
      s.boundaryEvent = .nmi)) ∧
  (∀ (s t u : State) (i : Instr), s.boundaryEvent = .instruction →
    s.sampled.beginInstruction.fetchDecode = .ok (i, u) → i.mnemonic ≠ .sei → i.mnemonic ≠ .plp → step s = .next t →
    t.irqLate = false ∧ (t.p.i = true → t.boundaryEvent ≠ .irq)) ∧
  ∀ s t : State, s.boundaryEvent ≠ .instruction → step s = .next t →
    t.irqLate = false ∧ (t.p.i = true → t.boundaryEvent ≠ .irq)

/-- An IRQ can still be taken immediately after an SEI or PLP that found I = 0 (R242): both outcomes are open to the
environment's choice, and after one that found I = 1 and leaves it so, neither is. -/
def Obligations.IrqStillAdmittedAfterSeiOrPlp : Prop :=
  ∀ (i : Instr) (s t : State), i = .sei ∨ i = .plp → exec i s = .next t →
    t.boundaryInput.irqLine = true → t.boundaryInput.resetRequest = false → t.sampled.nmiPending = false →
    (s.p.i = false → t.boundaryInput.takeNow = true → t.boundaryEvent = .irq) ∧
    (s.p.i = false → t.boundaryInput.takeNow = false → t.irqHeld = false → t.boundaryEvent = .instruction) ∧
    (s.p.i = true → t.p.i = true → t.boundaryEvent = .instruction)

/-- The NMI latch and its weak fairness (R34, R232, R234, R242; log 8). A step that runs an instruction leaves the latch set
exactly when it was set or an edge came at its boundary, one edge merging with another, but for a BRK that the NMI captures,
which clears it. So an NMI pending at a boundary that runs an instruction which does not capture it is still pending at the
next, and is taken there unless RESET is requested. -/
def Obligations.PendingNmiTakenWithinTwoBoundaries : Prop :=
  (∀ (s t u : State) (i : Instr), s.boundaryEvent = .instruction →
    s.sampled.beginInstruction.fetchDecode = .ok (i, u) → step s = .next t →
    (¬ Captured i s.sampled → t.nmiPending = (s.nmiPending || s.boundaryInput.nmiEdge)) ∧
    (Captured i s.sampled → t.nmiPending = false) ∧
    (¬ Captured i s.sampled → (s.nmiPending || s.boundaryInput.nmiEdge) = true →
      t.boundaryInput.resetRequest = false → t.boundaryEvent = .nmi)) ∧
  ∀ s t : State, s.boundaryEvent = .instruction → s.sampled.nmiPending = true → step s = .next t →
    t.nmiPending = true → t.boundaryInput.resetRequest = false → t.boundaryEvent = .nmi

/-- Weak fairness for IRQ (R242): an IRQ held asserted with I = 0 at two consecutive boundaries, the first of which ran an
instruction, is taken at the second unless RESET or an NMI comes before it there. -/
def Obligations.HeldIrqTakenWithinTwoBoundaries : Prop :=
  ∀ s t : State, s.boundaryEvent = .instruction → s.boundaryInput.irqLine = true → s.p.i = false →
    step s = .next t → t.boundaryInput.irqLine = true → t.p.i = false →
    t.boundaryInput.resetRequest = false → t.sampled.nmiPending = false → t.boundaryEvent = .irq

/-- The RESET event at an instruction boundary (R36, R270): I is 1, `nmi_pending` is 0, PC is the word at 0xFFFC, memory is
unchanged, and A, X, Y, S, N, V, D, Z and C are nine separate free values, none taken before (the counter that keeps them
apart is the model's, log 4, log 6). -/
def Obligations.ResetStepResult : Prop :=
  ∀ s : State, s.boundaryInput.resetRequest = true → s.boundaryInput.resetInside = false →
    ∃ t, step s = .next t ∧
      t.p.i = true ∧ t.nmiPending = false ∧ t.mem = s.mem ∧ t.memMap = s.memMap ∧ DrawnRegisters s.draws t ∧
      (Stored s 0xFFFC#16 → Stored s 0xFFFD#16 →
        t.pc = BitVec.ofNat 16 ((s.peek 0xFFFD#16).toNat * 256 + (s.peek 0xFFFC#16).toNat))

/-- A RESET in the middle of an instruction (R250, U16; the model's form of it, log 13): each byte of RAM that the instruction
would store holds a free value of its own, every other byte is as before, and the rest is as after any reset, with nine
further free values in the registers and flags. -/
def Obligations.AbandonedStoresAreFree : Prop :=
  ∀ (s : State) (i : Instr) (u v : State),
    s.boundaryInput.resetRequest = true → s.boundaryInput.resetInside = true →
    s.sampled.fetchDecode = .ok (i, u) → exec i u = .next v →
    ∃ (t : State) (count : Word → Nat) (first : Nat),
      step s = .next t ∧ t.p.i = true ∧ t.nmiPending = false ∧ t.memMap = s.memMap ∧
      (∀ a ∈ storesTo i u, s.kindAt a = .ram →
        v.draws ≤ count a ∧ count a < first ∧ t.peek a = Config.drawByte (count a)) ∧
      (∀ a ∈ storesTo i u, ∀ b ∈ storesTo i u, s.kindAt a = .ram → s.kindAt b = .ram → count a = count b → a = b) ∧
      (∀ a : Word, a ∉ storesTo i u → t.peek a = s.peek a) ∧
      DrawnRegisters first t ∧
      (Stored s 0xFFFC#16 → Stored s 0xFFFD#16 →
        t.pc = BitVec.ofNat 16 ((t.peek 0xFFFD#16).toNat * 256 + (t.peek 0xFFFC#16).toNat))

/-- State.reset at the values the spec gives: I = 1, `nmi_pending` = 0, PC = Read16(0xFFFC), and every byte of memory a free
value of its own, not zero (R36, R37, R270; log 1). Nothing is said of the registers and flags that R36 leaves as draws; their
values in State.reset are the model's own (log 2). -/
def Obligations.ResetStateMeetsSpec : Prop :=
  State.reset.p.i = true ∧ State.reset.nmiPending = false ∧
  State.reset.pc = (State.reset.read16 0xFFFC#16).1 ∧
  ∀ a : Word, State.reset.peek a = Config.powerOnByte a.toNat

/-! ### Registers, flags and branches -/

/-- INX, DEX, INY, DEY (R190 to R193): the opcodes; one more or one less modulo 256, N and Z from the result. -/
def Obligations.IndexIncDecResults : Prop :=
  EncodingsAre .inx [⟨.imp, 0xE8, 2, false⟩] ∧
  EncodingsAre .dex [⟨.imp, 0xCA, 2, false⟩] ∧
  EncodingsAre .iny [⟨.imp, 0xC8, 2, false⟩] ∧
  EncodingsAre .dey [⟨.imp, 0x88, 2, false⟩] ∧
  ∀ s : State,
    (let r := BitVec.ofNat 8 (s.x.toNat + 1); exec .inx s = .next { s with x := r, p := withNZ s.p r, pc := s.pc + 1 }) ∧
    (let r := BitVec.ofNat 8 (s.x.toNat + 255); exec .dex s = .next { s with x := r, p := withNZ s.p r, pc := s.pc + 1 }) ∧
    (let r := BitVec.ofNat 8 (s.y.toNat + 1); exec .iny s = .next { s with y := r, p := withNZ s.p r, pc := s.pc + 1 }) ∧
    (let r := BitVec.ofNat 8 (s.y.toNat + 255); exec .dey s = .next { s with y := r, p := withNZ s.p r, pc := s.pc + 1 })

/-- TAX, TXA, TAY, TYA, TSX, TXS (R194 to R199): the opcodes; the destination takes the source, and N and Z follow it but
for TXS, which sets no flag. -/
def Obligations.TransferResults : Prop :=
  EncodingsAre .tax [⟨.imp, 0xAA, 2, false⟩] ∧
  EncodingsAre .txa [⟨.imp, 0x8A, 2, false⟩] ∧
  EncodingsAre .tay [⟨.imp, 0xA8, 2, false⟩] ∧
  EncodingsAre .tya [⟨.imp, 0x98, 2, false⟩] ∧
  EncodingsAre .tsx [⟨.imp, 0xBA, 2, false⟩] ∧
  EncodingsAre .txs [⟨.imp, 0x9A, 2, false⟩] ∧
  ∀ s : State,
    exec .tax s = .next { s with x := s.a, p := withNZ s.p s.a, pc := s.pc + 1 } ∧
    exec .txa s = .next { s with a := s.x, p := withNZ s.p s.x, pc := s.pc + 1 } ∧
    exec .tay s = .next { s with y := s.a, p := withNZ s.p s.a, pc := s.pc + 1 } ∧
    exec .tya s = .next { s with a := s.y, p := withNZ s.p s.y, pc := s.pc + 1 } ∧
    exec .tsx s = .next { s with x := s.sp, p := withNZ s.p s.sp, pc := s.pc + 1 } ∧
    exec .txs s = .next { s with sp := s.x, pc := s.pc + 1 }

/-- SED, CLD, SEI, CLI, SEC, CLC, CLV and NOP (R200 to R207): the opcodes; the one named flag is set or cleared and
nothing else changes but PC, where what SEI notes for R242 in `irqLate` is left open; NOP changes PC alone. -/
def Obligations.FlagAndNopResults : Prop :=
  EncodingsAre .sed [⟨.imp, 0xF8, 2, false⟩] ∧
  EncodingsAre .cld [⟨.imp, 0xD8, 2, false⟩] ∧
  EncodingsAre .sei [⟨.imp, 0x78, 2, false⟩] ∧
  EncodingsAre .cli [⟨.imp, 0x58, 2, false⟩] ∧
  EncodingsAre .sec [⟨.imp, 0x38, 2, false⟩] ∧
  EncodingsAre .clc [⟨.imp, 0x18, 2, false⟩] ∧
  EncodingsAre .clv [⟨.imp, 0xB8, 2, false⟩] ∧ EncodingsAre .nop [⟨.imp, 0xEA, 2, false⟩] ∧
  ∀ s : State,
    exec .sed s = .next { s with p := { s.p with d := true }, pc := s.pc + 1 } ∧
    exec .cld s = .next { s with p := { s.p with d := false }, pc := s.pc + 1 } ∧
    (∃ t, exec .sei s = .next t ∧
      t = { s with p := { s.p with i := true }, irqLate := t.irqLate, pc := s.pc + 1 }) ∧
    exec .cli s = .next { s with p := { s.p with i := false }, pc := s.pc + 1 } ∧
    exec .sec s = .next { s with p := { s.p with c := true }, pc := s.pc + 1 } ∧
    exec .clc s = .next { s with p := { s.p with c := false }, pc := s.pc + 1 } ∧
    exec .clv s = .next { s with p := { s.p with v := false }, pc := s.pc + 1 } ∧
    exec .nop s = .next { s with pc := s.pc + 1 }

/-- The eight branches (R216 to R224): the opcodes; taken on their condition to the address after the branch plus the
signed displacement modulo 2^16, and otherwise to that address; nothing but PC changes; 2 cycles,
3 when taken inside the page of the next instruction, 4 when taken to another. -/
def Obligations.BranchResults : Prop :=
  OpcodesAre .beq [(.rel, 0xF0)] ∧ OpcodesAre .bne [(.rel, 0xD0)] ∧ OpcodesAre .bmi [(.rel, 0x30)] ∧
  OpcodesAre .bpl [(.rel, 0x10)] ∧ OpcodesAre .bcc [(.rel, 0x90)] ∧ OpcodesAre .bcs [(.rel, 0xB0)] ∧
  OpcodesAre .bvc [(.rel, 0x50)] ∧ OpcodesAre .bvs [(.rel, 0x70)] ∧
  ∀ (i : Instr) (disp : Byte) (taken : Bool) (s : State),
    i.operand = .rel disp → branchCondition s.p i.mnemonic = some taken →
    exec i s = .next { s with
      pc := BitVec.ofInt 16 ((s.pc.toNat : Int) + 2 + if taken then signed disp else 0) } ∧
    cycles i s = if taken then (if hi (s.pc + 2 + sext disp) = hi (s.pc + 2) then 3 else 4) else 2

/-! ### Timing, an annotation -/

/-- Footnotes 1 and 2 (R276) over the whole instruction set: the instructions that only read memory cost one cycle more in
ABS,X, ABS,Y and (IND,Y) when the page is crossed; a branch costs 2, 3 or 4; every other instruction has one fixed
count. -/
def Obligations.CycleAdjustments : Prop :=
  ∀ (i : Instr) (s : State),
    (i.mnemonic ∈ [.lda, .ldx, .ldy, .and, .ora, .eor, .cmp, .adc, .sbc] →
      cycles i s = baseCycles i.mnemonic i.operand.mode + if crossesPage i s then 1 else 0) ∧
    (i.mnemonic ∉ [.lda, .ldx, .ldy, .and, .ora, .eor, .cmp, .adc, .sbc] → i.operand.mode ≠ .rel →
      ∀ t : State, cycles i s = cycles i t) ∧
    (i.operand.mode = .rel → cycles i s = 2 ∨ cycles i s = 3 ∨ cycles i s = 4)
end

