-- ==== Sys2Proof/Laws/Bytes.lean ====
section
/-! SUPPORT. The small laws of bytes, addresses, the status byte and the stack page. -/

namespace Sys2Proof.Machine

/-- A word is its two halves (R9). -/
@[simp] theorem word_hi_lo (w : Word) : word (hi w) (lo w) = w := by
  simp only [word, hi, lo]; ext i; grind

@[simp] theorem lo_word (h l : Byte) : lo (word h l) = l := by
  simp only [word, lo]; ext i; grind

@[simp] theorem hi_word (h l : Byte) : hi (word h l) = h := by
  simp only [word, hi]; ext i; grind

/-- `(hi << 8) | lo` as a number (R9, R54). -/
theorem word_toNat (h l : Byte) : (word h l).toNat = h.toNat * 256 + l.toNat := by
  have hl := l.isLt
  simp only [word, BitVec.toNat_append]
  rw [Nat.shiftLeft_eq, Nat.mul_comm, ← Nat.two_pow_add_eq_or_of_lt hl, Nat.mul_comm]

theorem lo_toNat (w : Word) : (lo w).toNat = w.toNat % 256 := by
  simp [lo]

theorem hi_toNat (w : Word) : (hi w).toNat = w.toNat / 256 := by
  have h := w.isLt
  simp only [hi, BitVec.extractLsb'_toNat, Nat.shiftRight_eq_div_pow]
  omega

@[simp] theorem zext_toNat (b : Byte) : (zext b).toNat = b.toNat := by
  have h := b.isLt
  simp only [zext, BitVec.toNat_setWidth]
  omega

/-- The stack address as a number: inside page 1 (R31). -/
@[simp] theorem stackAddr_toNat (b : Byte) : (stackAddr b).toNat = 256 + b.toNat := by
  have h := b.isLt
  simp only [stackAddr, BitVec.toNat_add, zext_toNat]
  simp
  omega

/-- Distinct stack pointers name distinct bytes of page 1. -/
@[simp] theorem stackAddr_inj (b c : Byte) : stackAddr b = stackAddr c ↔ b = c := by
  constructor
  · intro h
    have := congrArg BitVec.toNat h
    simp only [stackAddr_toNat] at this
    exact BitVec.eq_of_toNat_eq (by omega)
  · rintro rfl; rfl

/-- Pulling the pushed status byte gives the flags back, whatever bit 4 was (R29, R30). -/
@[simp] theorem setStatus_statusByte (p : Status) (b : Bool) : setStatus (statusByte p b) = p := by
  obtain ⟨n, v, d, i, z, c⟩ := p
  cases n <;> cases v <;> cases d <;> cases i <;> cases z <;> cases c <;> cases b <;> rfl

/-- Bit 4 of the status byte is the bit asked for (R29). -/
@[simp] theorem statusByte_bit4 (p : Status) (b : Bool) : (statusByte p b).getLsbD 4 = b := by
  obtain ⟨n, v, d, i, z, c⟩ := p
  cases n <;> cases v <;> cases d <;> cases i <;> cases z <;> cases c <;> cases b <;> rfl

end Sys2Proof.Machine
end

