-- ==== Sys2Proof/Laws/Memory.lean ====
section
/-! SUPPORT. The laws of the memory list: a write is read back, leaves every other address, and keeps the canonical
form. -/

namespace Sys2Proof.Machine

/-- What the canonical form says of a nonempty memory. -/
theorem Memory.wfFrom_cons {n k : Nat} {b : Byte} {m : Memory} :
    Memory.wfFrom n ((k, b) :: m) = true ↔ n ≤ k ∧ k < 65536 ∧ Memory.wfFrom (k + 1) m = true := by
  simp [Memory.wfFrom, and_assoc]

theorem Memory.write_wfFrom {n a : Nat} {v : Byte} {m : Memory} (h : Memory.wfFrom n m = true) (hn : n ≤ a)
    (ha : a < 65536) : Memory.wfFrom n (Memory.write m a v) = true := by
  induction m generalizing n with
  | nil => exact Memory.wfFrom_cons.2 ⟨hn, ha, rfl⟩
  | cons c m ih =>
    obtain ⟨k, b⟩ := c
    have h' := Memory.wfFrom_cons.1 h
    simp only [Memory.write]
    split
    · next hak => exact Memory.wfFrom_cons.2 ⟨hn, ha, Memory.wfFrom_cons.2 ⟨hak, h'.2⟩⟩
    · split
      · next hak => subst hak; exact Memory.wfFrom_cons.2 ⟨hn, ha, h'.2.2⟩
      · exact Memory.wfFrom_cons.2 ⟨h'.1, h'.2.1, ih h'.2.2 (by omega)⟩

/-- A write keeps the canonical form. -/
theorem Memory.write_wf {a : Nat} {v : Byte} {m : Memory} (h : m.wf = true) (ha : a < 65536) :
    (m.write a v).wf = true :=
  Memory.write_wfFrom h (Nat.zero_le _) ha

/-- A byte written is read back (R62). -/
theorem Memory.read_write_same {a : Nat} {v : Byte} {m : Memory} : (m.write a v).read a = v := by
  induction m with
  | nil => simp [Memory.write, Memory.read]
  | cons c m ih =>
    obtain ⟨k, b⟩ := c
    simp only [Memory.write]
    split
    · simp [Memory.read]
    · split
      · simp [Memory.read]
      · next hak => simpa [Memory.read, Ne.symm hak] using ih

/-- A write leaves every other address. -/
theorem Memory.read_write_other {a k : Nat} {v : Byte} {m : Memory} (hk : k ≠ a) :
    (m.write a v).read k = m.read k := by
  induction m with
  | nil => simp [Memory.write, Memory.read, Ne.symm hk]
  | cons c m ih =>
    obtain ⟨j, b⟩ := c
    simp only [Memory.write]
    split
    · simp [Memory.read, Ne.symm hk]
    · split
      · next haj => subst haj; simp [Memory.read, Ne.symm hk]
      · simp only [Memory.read, ih]

/-- An address that nothing has written reads as its free byte (R37). -/
theorem Memory.read_unwritten {a : Nat} {m : Memory} (h : a ∉ m.map Prod.fst) : m.read a = Config.powerOnByte a := by
  induction m with
  | nil => rfl
  | cons c m ih =>
    simp only [List.map_cons, List.mem_cons, not_or] at h
    simp only [Memory.read, Ne.symm h.1, if_false, ih h.2]

/-- The memory after reset lists nothing and is in canonical form. -/
theorem Memory.reset_wf : State.reset.mem.wf = true := rfl

end Sys2Proof.Machine
end

