-- ==== Sys2Proof/Laws/State.lean ====
section
/-! SUPPORT. One lemma for each field of State under each named update, true by unfolding it once. -/

namespace Sys2Proof.Machine

variable (s : State) (v : Byte) (w : Word) (q : Status) (b : Bool) (n : Nat)

@[simp] theorem State.setA_a : (s.setA v).a = v := rfl
@[simp] theorem State.setA_x : (s.setA v).x = s.x := rfl
@[simp] theorem State.setA_y : (s.setA v).y = s.y := rfl
@[simp] theorem State.setA_sp : (s.setA v).sp = s.sp := rfl
@[simp] theorem State.setA_pc : (s.setA v).pc = s.pc := rfl
@[simp] theorem State.setA_p : (s.setA v).p = s.p := rfl
@[simp] theorem State.setA_mem : (s.setA v).mem = s.mem := rfl
@[simp] theorem State.setA_nmiPending : (s.setA v).nmiPending = s.nmiPending := rfl
@[simp] theorem State.setA_irqLate : (s.setA v).irqLate = s.irqLate := rfl
@[simp] theorem State.setA_irqLine : (s.setA v).irqLine = s.irqLine := rfl
@[simp] theorem State.setA_inputs : (s.setA v).inputs = s.inputs := rfl
@[simp] theorem State.setA_memMap : (s.setA v).memMap = s.memMap := rfl
@[simp] theorem State.setA_events : (s.setA v).events = s.events := rfl
@[simp] theorem State.setA_draws : (s.setA v).draws = s.draws := rfl
@[simp] theorem State.setA_nmiHeld : (s.setA v).nmiHeld = s.nmiHeld := rfl
@[simp] theorem State.setA_irqHeld : (s.setA v).irqHeld = s.irqHeld := rfl
@[simp] theorem State.setA_brkNmi : (s.setA v).brkNmi = s.brkNmi := rfl
@[simp] theorem State.setA_peek (k : Word) : (s.setA v).peek k = s.peek k := rfl
@[simp] theorem State.setA_kindAt (k : Word) : (s.setA v).kindAt k = s.kindAt k := rfl

@[simp] theorem State.setX_a : (s.setX v).a = s.a := rfl
@[simp] theorem State.setX_x : (s.setX v).x = v := rfl
@[simp] theorem State.setX_y : (s.setX v).y = s.y := rfl
@[simp] theorem State.setX_sp : (s.setX v).sp = s.sp := rfl
@[simp] theorem State.setX_pc : (s.setX v).pc = s.pc := rfl
@[simp] theorem State.setX_p : (s.setX v).p = s.p := rfl
@[simp] theorem State.setX_mem : (s.setX v).mem = s.mem := rfl
@[simp] theorem State.setX_nmiPending : (s.setX v).nmiPending = s.nmiPending := rfl
@[simp] theorem State.setX_irqLate : (s.setX v).irqLate = s.irqLate := rfl
@[simp] theorem State.setX_irqLine : (s.setX v).irqLine = s.irqLine := rfl
@[simp] theorem State.setX_inputs : (s.setX v).inputs = s.inputs := rfl
@[simp] theorem State.setX_memMap : (s.setX v).memMap = s.memMap := rfl
@[simp] theorem State.setX_events : (s.setX v).events = s.events := rfl
@[simp] theorem State.setX_draws : (s.setX v).draws = s.draws := rfl
@[simp] theorem State.setX_nmiHeld : (s.setX v).nmiHeld = s.nmiHeld := rfl
@[simp] theorem State.setX_irqHeld : (s.setX v).irqHeld = s.irqHeld := rfl
@[simp] theorem State.setX_brkNmi : (s.setX v).brkNmi = s.brkNmi := rfl
@[simp] theorem State.setX_peek (k : Word) : (s.setX v).peek k = s.peek k := rfl
@[simp] theorem State.setX_kindAt (k : Word) : (s.setX v).kindAt k = s.kindAt k := rfl

@[simp] theorem State.setY_a : (s.setY v).a = s.a := rfl
@[simp] theorem State.setY_x : (s.setY v).x = s.x := rfl
@[simp] theorem State.setY_y : (s.setY v).y = v := rfl
@[simp] theorem State.setY_sp : (s.setY v).sp = s.sp := rfl
@[simp] theorem State.setY_pc : (s.setY v).pc = s.pc := rfl
@[simp] theorem State.setY_p : (s.setY v).p = s.p := rfl
@[simp] theorem State.setY_mem : (s.setY v).mem = s.mem := rfl
@[simp] theorem State.setY_nmiPending : (s.setY v).nmiPending = s.nmiPending := rfl
@[simp] theorem State.setY_irqLate : (s.setY v).irqLate = s.irqLate := rfl
@[simp] theorem State.setY_irqLine : (s.setY v).irqLine = s.irqLine := rfl
@[simp] theorem State.setY_inputs : (s.setY v).inputs = s.inputs := rfl
@[simp] theorem State.setY_memMap : (s.setY v).memMap = s.memMap := rfl
@[simp] theorem State.setY_events : (s.setY v).events = s.events := rfl
@[simp] theorem State.setY_draws : (s.setY v).draws = s.draws := rfl
@[simp] theorem State.setY_nmiHeld : (s.setY v).nmiHeld = s.nmiHeld := rfl
@[simp] theorem State.setY_irqHeld : (s.setY v).irqHeld = s.irqHeld := rfl
@[simp] theorem State.setY_brkNmi : (s.setY v).brkNmi = s.brkNmi := rfl
@[simp] theorem State.setY_peek (k : Word) : (s.setY v).peek k = s.peek k := rfl
@[simp] theorem State.setY_kindAt (k : Word) : (s.setY v).kindAt k = s.kindAt k := rfl

@[simp] theorem State.setSp_a : (s.setSp v).a = s.a := rfl
@[simp] theorem State.setSp_x : (s.setSp v).x = s.x := rfl
@[simp] theorem State.setSp_y : (s.setSp v).y = s.y := rfl
@[simp] theorem State.setSp_sp : (s.setSp v).sp = v := rfl
@[simp] theorem State.setSp_pc : (s.setSp v).pc = s.pc := rfl
@[simp] theorem State.setSp_p : (s.setSp v).p = s.p := rfl
@[simp] theorem State.setSp_mem : (s.setSp v).mem = s.mem := rfl
@[simp] theorem State.setSp_nmiPending : (s.setSp v).nmiPending = s.nmiPending := rfl
@[simp] theorem State.setSp_irqLate : (s.setSp v).irqLate = s.irqLate := rfl
@[simp] theorem State.setSp_irqLine : (s.setSp v).irqLine = s.irqLine := rfl
@[simp] theorem State.setSp_inputs : (s.setSp v).inputs = s.inputs := rfl
@[simp] theorem State.setSp_memMap : (s.setSp v).memMap = s.memMap := rfl
@[simp] theorem State.setSp_events : (s.setSp v).events = s.events := rfl
@[simp] theorem State.setSp_draws : (s.setSp v).draws = s.draws := rfl
@[simp] theorem State.setSp_nmiHeld : (s.setSp v).nmiHeld = s.nmiHeld := rfl
@[simp] theorem State.setSp_irqHeld : (s.setSp v).irqHeld = s.irqHeld := rfl
@[simp] theorem State.setSp_brkNmi : (s.setSp v).brkNmi = s.brkNmi := rfl
@[simp] theorem State.setSp_peek (k : Word) : (s.setSp v).peek k = s.peek k := rfl
@[simp] theorem State.setSp_kindAt (k : Word) : (s.setSp v).kindAt k = s.kindAt k := rfl

@[simp] theorem State.setPc_a : (s.setPc w).a = s.a := rfl
@[simp] theorem State.setPc_x : (s.setPc w).x = s.x := rfl
@[simp] theorem State.setPc_y : (s.setPc w).y = s.y := rfl
@[simp] theorem State.setPc_sp : (s.setPc w).sp = s.sp := rfl
@[simp] theorem State.setPc_pc : (s.setPc w).pc = w := rfl
@[simp] theorem State.setPc_p : (s.setPc w).p = s.p := rfl
@[simp] theorem State.setPc_mem : (s.setPc w).mem = s.mem := rfl
@[simp] theorem State.setPc_nmiPending : (s.setPc w).nmiPending = s.nmiPending := rfl
@[simp] theorem State.setPc_irqLate : (s.setPc w).irqLate = s.irqLate := rfl
@[simp] theorem State.setPc_irqLine : (s.setPc w).irqLine = s.irqLine := rfl
@[simp] theorem State.setPc_inputs : (s.setPc w).inputs = s.inputs := rfl
@[simp] theorem State.setPc_memMap : (s.setPc w).memMap = s.memMap := rfl
@[simp] theorem State.setPc_events : (s.setPc w).events = s.events := rfl
@[simp] theorem State.setPc_draws : (s.setPc w).draws = s.draws := rfl
@[simp] theorem State.setPc_nmiHeld : (s.setPc w).nmiHeld = s.nmiHeld := rfl
@[simp] theorem State.setPc_irqHeld : (s.setPc w).irqHeld = s.irqHeld := rfl
@[simp] theorem State.setPc_brkNmi : (s.setPc w).brkNmi = s.brkNmi := rfl
@[simp] theorem State.setPc_peek (k : Word) : (s.setPc w).peek k = s.peek k := rfl
@[simp] theorem State.setPc_kindAt (k : Word) : (s.setPc w).kindAt k = s.kindAt k := rfl

@[simp] theorem State.setP_a : (s.setP q).a = s.a := rfl
@[simp] theorem State.setP_x : (s.setP q).x = s.x := rfl
@[simp] theorem State.setP_y : (s.setP q).y = s.y := rfl
@[simp] theorem State.setP_sp : (s.setP q).sp = s.sp := rfl
@[simp] theorem State.setP_pc : (s.setP q).pc = s.pc := rfl
@[simp] theorem State.setP_p : (s.setP q).p = q := rfl
@[simp] theorem State.setP_mem : (s.setP q).mem = s.mem := rfl
@[simp] theorem State.setP_nmiPending : (s.setP q).nmiPending = s.nmiPending := rfl
@[simp] theorem State.setP_irqLate : (s.setP q).irqLate = s.irqLate := rfl
@[simp] theorem State.setP_irqLine : (s.setP q).irqLine = s.irqLine := rfl
@[simp] theorem State.setP_inputs : (s.setP q).inputs = s.inputs := rfl
@[simp] theorem State.setP_memMap : (s.setP q).memMap = s.memMap := rfl
@[simp] theorem State.setP_events : (s.setP q).events = s.events := rfl
@[simp] theorem State.setP_draws : (s.setP q).draws = s.draws := rfl
@[simp] theorem State.setP_nmiHeld : (s.setP q).nmiHeld = s.nmiHeld := rfl
@[simp] theorem State.setP_irqHeld : (s.setP q).irqHeld = s.irqHeld := rfl
@[simp] theorem State.setP_brkNmi : (s.setP q).brkNmi = s.brkNmi := rfl
@[simp] theorem State.setP_peek (k : Word) : (s.setP q).peek k = s.peek k := rfl
@[simp] theorem State.setP_kindAt (k : Word) : (s.setP q).kindAt k = s.kindAt k := rfl

@[simp] theorem State.advance_a : (s.advance n).a = s.a := rfl
@[simp] theorem State.advance_x : (s.advance n).x = s.x := rfl
@[simp] theorem State.advance_y : (s.advance n).y = s.y := rfl
@[simp] theorem State.advance_sp : (s.advance n).sp = s.sp := rfl
@[simp] theorem State.advance_pc : (s.advance n).pc = s.pc + BitVec.ofNat 16 n := rfl
@[simp] theorem State.advance_p : (s.advance n).p = s.p := rfl
@[simp] theorem State.advance_mem : (s.advance n).mem = s.mem := rfl
@[simp] theorem State.advance_nmiPending : (s.advance n).nmiPending = s.nmiPending := rfl
@[simp] theorem State.advance_irqLate : (s.advance n).irqLate = s.irqLate := rfl
@[simp] theorem State.advance_irqLine : (s.advance n).irqLine = s.irqLine := rfl
@[simp] theorem State.advance_inputs : (s.advance n).inputs = s.inputs := rfl
@[simp] theorem State.advance_memMap : (s.advance n).memMap = s.memMap := rfl
@[simp] theorem State.advance_events : (s.advance n).events = s.events := rfl
@[simp] theorem State.advance_draws : (s.advance n).draws = s.draws := rfl
@[simp] theorem State.advance_nmiHeld : (s.advance n).nmiHeld = s.nmiHeld := rfl
@[simp] theorem State.advance_irqHeld : (s.advance n).irqHeld = s.irqHeld := rfl
@[simp] theorem State.advance_brkNmi : (s.advance n).brkNmi = s.brkNmi := rfl
@[simp] theorem State.advance_peek (k : Word) : (s.advance n).peek k = s.peek k := rfl
@[simp] theorem State.advance_kindAt (k : Word) : (s.advance n).kindAt k = s.kindAt k := rfl

@[simp] theorem State.setNZ_a : (s.setNZ v).a = s.a := rfl
@[simp] theorem State.setNZ_x : (s.setNZ v).x = s.x := rfl
@[simp] theorem State.setNZ_y : (s.setNZ v).y = s.y := rfl
@[simp] theorem State.setNZ_sp : (s.setNZ v).sp = s.sp := rfl
@[simp] theorem State.setNZ_pc : (s.setNZ v).pc = s.pc := rfl
@[simp] theorem State.setNZ_p : (s.setNZ v).p = Machine.setNZ s.p v := rfl
@[simp] theorem State.setNZ_mem : (s.setNZ v).mem = s.mem := rfl
@[simp] theorem State.setNZ_nmiPending : (s.setNZ v).nmiPending = s.nmiPending := rfl
@[simp] theorem State.setNZ_irqLate : (s.setNZ v).irqLate = s.irqLate := rfl
@[simp] theorem State.setNZ_irqLine : (s.setNZ v).irqLine = s.irqLine := rfl
@[simp] theorem State.setNZ_inputs : (s.setNZ v).inputs = s.inputs := rfl
@[simp] theorem State.setNZ_memMap : (s.setNZ v).memMap = s.memMap := rfl
@[simp] theorem State.setNZ_events : (s.setNZ v).events = s.events := rfl
@[simp] theorem State.setNZ_draws : (s.setNZ v).draws = s.draws := rfl
@[simp] theorem State.setNZ_nmiHeld : (s.setNZ v).nmiHeld = s.nmiHeld := rfl
@[simp] theorem State.setNZ_irqHeld : (s.setNZ v).irqHeld = s.irqHeld := rfl
@[simp] theorem State.setNZ_brkNmi : (s.setNZ v).brkNmi = s.brkNmi := rfl
@[simp] theorem State.setNZ_peek (k : Word) : (s.setNZ v).peek k = s.peek k := rfl
@[simp] theorem State.setNZ_kindAt (k : Word) : (s.setNZ v).kindAt k = s.kindAt k := rfl

@[simp] theorem State.setC_a : (s.setC b).a = s.a := rfl
@[simp] theorem State.setC_x : (s.setC b).x = s.x := rfl
@[simp] theorem State.setC_y : (s.setC b).y = s.y := rfl
@[simp] theorem State.setC_sp : (s.setC b).sp = s.sp := rfl
@[simp] theorem State.setC_pc : (s.setC b).pc = s.pc := rfl
@[simp] theorem State.setC_p : (s.setC b).p = { s.p with c := b } := rfl
@[simp] theorem State.setC_mem : (s.setC b).mem = s.mem := rfl
@[simp] theorem State.setC_nmiPending : (s.setC b).nmiPending = s.nmiPending := rfl
@[simp] theorem State.setC_irqLate : (s.setC b).irqLate = s.irqLate := rfl
@[simp] theorem State.setC_irqLine : (s.setC b).irqLine = s.irqLine := rfl
@[simp] theorem State.setC_inputs : (s.setC b).inputs = s.inputs := rfl
@[simp] theorem State.setC_memMap : (s.setC b).memMap = s.memMap := rfl
@[simp] theorem State.setC_events : (s.setC b).events = s.events := rfl
@[simp] theorem State.setC_draws : (s.setC b).draws = s.draws := rfl
@[simp] theorem State.setC_nmiHeld : (s.setC b).nmiHeld = s.nmiHeld := rfl
@[simp] theorem State.setC_irqHeld : (s.setC b).irqHeld = s.irqHeld := rfl
@[simp] theorem State.setC_brkNmi : (s.setC b).brkNmi = s.brkNmi := rfl
@[simp] theorem State.setC_peek (k : Word) : (s.setC b).peek k = s.peek k := rfl
@[simp] theorem State.setC_kindAt (k : Word) : (s.setC b).kindAt k = s.kindAt k := rfl

@[simp] theorem State.lateIrq_a : (lateIrq b s).a = s.a := rfl
@[simp] theorem State.lateIrq_x : (lateIrq b s).x = s.x := rfl
@[simp] theorem State.lateIrq_y : (lateIrq b s).y = s.y := rfl
@[simp] theorem State.lateIrq_sp : (lateIrq b s).sp = s.sp := rfl
@[simp] theorem State.lateIrq_pc : (lateIrq b s).pc = s.pc := rfl
@[simp] theorem State.lateIrq_p : (lateIrq b s).p = s.p := rfl
@[simp] theorem State.lateIrq_mem : (lateIrq b s).mem = s.mem := rfl
@[simp] theorem State.lateIrq_nmiPending : (lateIrq b s).nmiPending = s.nmiPending := rfl
@[simp] theorem State.lateIrq_irqLate : (lateIrq b s).irqLate = !b := rfl
@[simp] theorem State.lateIrq_irqLine : (lateIrq b s).irqLine = s.irqLine := rfl
@[simp] theorem State.lateIrq_inputs : (lateIrq b s).inputs = s.inputs := rfl
@[simp] theorem State.lateIrq_memMap : (lateIrq b s).memMap = s.memMap := rfl
@[simp] theorem State.lateIrq_events : (lateIrq b s).events = s.events := rfl
@[simp] theorem State.lateIrq_draws : (lateIrq b s).draws = s.draws := rfl
@[simp] theorem State.lateIrq_nmiHeld : (lateIrq b s).nmiHeld = s.nmiHeld := rfl
@[simp] theorem State.lateIrq_irqHeld : (lateIrq b s).irqHeld = s.irqHeld := rfl
@[simp] theorem State.lateIrq_brkNmi : (lateIrq b s).brkNmi = s.brkNmi := rfl
@[simp] theorem State.lateIrq_peek (k : Word) : (lateIrq b s).peek k = s.peek k := rfl
@[simp] theorem State.lateIrq_kindAt (k : Word) : (lateIrq b s).kindAt k = s.kindAt k := rfl

@[simp] theorem State.sampled_a : (s.sampled).a = s.a := rfl
@[simp] theorem State.sampled_x : (s.sampled).x = s.x := rfl
@[simp] theorem State.sampled_y : (s.sampled).y = s.y := rfl
@[simp] theorem State.sampled_sp : (s.sampled).sp = s.sp := rfl
@[simp] theorem State.sampled_pc : (s.sampled).pc = s.pc := rfl
@[simp] theorem State.sampled_p : (s.sampled).p = s.p := rfl
@[simp] theorem State.sampled_mem : (s.sampled).mem = s.mem := rfl
@[simp] theorem State.sampled_nmiPending : (s.sampled).nmiPending = (s.nmiPending || s.boundaryInput.nmiEdge) := rfl
@[simp] theorem State.sampled_irqLate : (s.sampled).irqLate = s.irqLate := rfl
@[simp] theorem State.sampled_irqLine : (s.sampled).irqLine = s.boundaryInput.irqLine := rfl
@[simp] theorem State.sampled_inputs : (s.sampled).inputs = s.inputs.tail := rfl
@[simp] theorem State.sampled_memMap : (s.sampled).memMap = s.memMap := rfl
@[simp] theorem State.sampled_events : (s.sampled).events = s.events := rfl
@[simp] theorem State.sampled_draws : (s.sampled).draws = s.draws := rfl
@[simp] theorem State.sampled_nmiHeld : (s.sampled).nmiHeld = s.nmiHeld := rfl
@[simp] theorem State.sampled_irqHeld : (s.sampled).irqHeld = s.irqHeld := rfl
@[simp] theorem State.sampled_brkNmi : (s.sampled).brkNmi = s.boundaryInput.brkNmi := rfl
@[simp] theorem State.sampled_peek (k : Word) : (s.sampled).peek k = s.peek k := rfl
@[simp] theorem State.sampled_kindAt (k : Word) : (s.sampled).kindAt k = s.kindAt k := rfl

@[simp] theorem State.beginInstruction_a : (s.beginInstruction).a = s.a := rfl
@[simp] theorem State.beginInstruction_x : (s.beginInstruction).x = s.x := rfl
@[simp] theorem State.beginInstruction_y : (s.beginInstruction).y = s.y := rfl
@[simp] theorem State.beginInstruction_sp : (s.beginInstruction).sp = s.sp := rfl
@[simp] theorem State.beginInstruction_pc : (s.beginInstruction).pc = s.pc := rfl
@[simp] theorem State.beginInstruction_p : (s.beginInstruction).p = s.p := rfl
@[simp] theorem State.beginInstruction_mem : (s.beginInstruction).mem = s.mem := rfl
@[simp] theorem State.beginInstruction_nmiPending : (s.beginInstruction).nmiPending = s.nmiPending := rfl
@[simp] theorem State.beginInstruction_irqLate : (s.beginInstruction).irqLate = false := rfl
@[simp] theorem State.beginInstruction_irqLine : (s.beginInstruction).irqLine = s.irqLine := rfl
@[simp] theorem State.beginInstruction_inputs : (s.beginInstruction).inputs = s.inputs := rfl
@[simp] theorem State.beginInstruction_memMap : (s.beginInstruction).memMap = s.memMap := rfl
@[simp] theorem State.beginInstruction_events : (s.beginInstruction).events = s.events := rfl
@[simp] theorem State.beginInstruction_draws : (s.beginInstruction).draws = s.draws := rfl
@[simp] theorem State.beginInstruction_nmiHeld : (s.beginInstruction).nmiHeld = s.nmiPending := rfl
@[simp] theorem State.beginInstruction_irqHeld : (s.beginInstruction).irqHeld = (s.irqLine && !s.p.i) := rfl
@[simp] theorem State.beginInstruction_brkNmi : (s.beginInstruction).brkNmi = s.brkNmi := rfl
@[simp] theorem State.beginInstruction_peek (k : Word) : (s.beginInstruction).peek k = s.peek k := rfl
@[simp] theorem State.beginInstruction_kindAt (k : Word) : (s.beginInstruction).kindAt k = s.kindAt k := rfl

@[simp] theorem State.drawByte_snd_a : (s.drawByte.2).a = s.a := rfl
@[simp] theorem State.drawByte_snd_x : (s.drawByte.2).x = s.x := rfl
@[simp] theorem State.drawByte_snd_y : (s.drawByte.2).y = s.y := rfl
@[simp] theorem State.drawByte_snd_sp : (s.drawByte.2).sp = s.sp := rfl
@[simp] theorem State.drawByte_snd_pc : (s.drawByte.2).pc = s.pc := rfl
@[simp] theorem State.drawByte_snd_p : (s.drawByte.2).p = s.p := rfl
@[simp] theorem State.drawByte_snd_mem : (s.drawByte.2).mem = s.mem := rfl
@[simp] theorem State.drawByte_snd_nmiPending : (s.drawByte.2).nmiPending = s.nmiPending := rfl
@[simp] theorem State.drawByte_snd_irqLate : (s.drawByte.2).irqLate = s.irqLate := rfl
@[simp] theorem State.drawByte_snd_irqLine : (s.drawByte.2).irqLine = s.irqLine := rfl
@[simp] theorem State.drawByte_snd_inputs : (s.drawByte.2).inputs = s.inputs := rfl
@[simp] theorem State.drawByte_snd_memMap : (s.drawByte.2).memMap = s.memMap := rfl
@[simp] theorem State.drawByte_snd_events : (s.drawByte.2).events = s.events := rfl
@[simp] theorem State.drawByte_snd_draws : (s.drawByte.2).draws = s.draws + 1 := rfl
@[simp] theorem State.drawByte_snd_nmiHeld : (s.drawByte.2).nmiHeld = s.nmiHeld := rfl
@[simp] theorem State.drawByte_snd_irqHeld : (s.drawByte.2).irqHeld = s.irqHeld := rfl
@[simp] theorem State.drawByte_snd_brkNmi : (s.drawByte.2).brkNmi = s.brkNmi := rfl
@[simp] theorem State.drawByte_snd_peek (k : Word) : (s.drawByte.2).peek k = s.peek k := rfl
@[simp] theorem State.drawByte_snd_kindAt (k : Word) : (s.drawByte.2).kindAt k = s.kindAt k := rfl

@[simp] theorem State.decimalDraws_snd_a : (s.decimalDraws.2).a = s.a := rfl
@[simp] theorem State.decimalDraws_snd_x : (s.decimalDraws.2).x = s.x := rfl
@[simp] theorem State.decimalDraws_snd_y : (s.decimalDraws.2).y = s.y := rfl
@[simp] theorem State.decimalDraws_snd_sp : (s.decimalDraws.2).sp = s.sp := rfl
@[simp] theorem State.decimalDraws_snd_pc : (s.decimalDraws.2).pc = s.pc := rfl
@[simp] theorem State.decimalDraws_snd_p : (s.decimalDraws.2).p = s.p := rfl
@[simp] theorem State.decimalDraws_snd_mem : (s.decimalDraws.2).mem = s.mem := rfl
@[simp] theorem State.decimalDraws_snd_nmiPending : (s.decimalDraws.2).nmiPending = s.nmiPending := rfl
@[simp] theorem State.decimalDraws_snd_irqLate : (s.decimalDraws.2).irqLate = s.irqLate := rfl
@[simp] theorem State.decimalDraws_snd_irqLine : (s.decimalDraws.2).irqLine = s.irqLine := rfl
@[simp] theorem State.decimalDraws_snd_inputs : (s.decimalDraws.2).inputs = s.inputs := rfl
@[simp] theorem State.decimalDraws_snd_memMap : (s.decimalDraws.2).memMap = s.memMap := rfl
@[simp] theorem State.decimalDraws_snd_events : (s.decimalDraws.2).events = s.events := rfl
@[simp] theorem State.decimalDraws_snd_draws : (s.decimalDraws.2).draws = s.draws + 5 := rfl
@[simp] theorem State.decimalDraws_snd_nmiHeld : (s.decimalDraws.2).nmiHeld = s.nmiHeld := rfl
@[simp] theorem State.decimalDraws_snd_irqHeld : (s.decimalDraws.2).irqHeld = s.irqHeld := rfl
@[simp] theorem State.decimalDraws_snd_brkNmi : (s.decimalDraws.2).brkNmi = s.brkNmi := rfl
@[simp] theorem State.decimalDraws_snd_peek (k : Word) : (s.decimalDraws.2).peek k = s.peek k := rfl
@[simp] theorem State.decimalDraws_snd_kindAt (k : Word) : (s.decimalDraws.2).kindAt k = s.kindAt k := rfl

@[simp] theorem State.quiet_a : (s.quiet).a = s.a := rfl
@[simp] theorem State.quiet_x : (s.quiet).x = s.x := rfl
@[simp] theorem State.quiet_y : (s.quiet).y = s.y := rfl
@[simp] theorem State.quiet_sp : (s.quiet).sp = s.sp := rfl
@[simp] theorem State.quiet_pc : (s.quiet).pc = s.pc := rfl
@[simp] theorem State.quiet_p : (s.quiet).p = s.p := rfl
@[simp] theorem State.quiet_mem : (s.quiet).mem = s.mem := rfl
@[simp] theorem State.quiet_nmiPending : (s.quiet).nmiPending = false := rfl
@[simp] theorem State.quiet_irqLate : (s.quiet).irqLate = s.irqLate := rfl
@[simp] theorem State.quiet_irqLine : (s.quiet).irqLine = false := rfl
@[simp] theorem State.quiet_inputs : (s.quiet).inputs = [] := rfl
@[simp] theorem State.quiet_memMap : (s.quiet).memMap = [] := rfl
@[simp] theorem State.quiet_events : (s.quiet).events = s.events := rfl
@[simp] theorem State.quiet_draws : (s.quiet).draws = s.draws := rfl
@[simp] theorem State.quiet_nmiHeld : (s.quiet).nmiHeld = s.nmiHeld := rfl
@[simp] theorem State.quiet_irqHeld : (s.quiet).irqHeld = s.irqHeld := rfl
@[simp] theorem State.quiet_brkNmi : (s.quiet).brkNmi = s.brkNmi := rfl
@[simp] theorem State.quiet_peek (k : Word) : (s.quiet).peek k = s.peek k := rfl
@[simp] theorem State.quiet_kindAt (k : Word) : (s.quiet).kindAt k = .ram := rfl

@[simp] theorem State.clearNmi_a : (s.clearNmi w).a = s.a := by
  unfold State.clearNmi; split <;> rfl
@[simp] theorem State.clearNmi_x : (s.clearNmi w).x = s.x := by
  unfold State.clearNmi; split <;> rfl
@[simp] theorem State.clearNmi_y : (s.clearNmi w).y = s.y := by
  unfold State.clearNmi; split <;> rfl
@[simp] theorem State.clearNmi_sp : (s.clearNmi w).sp = s.sp := by
  unfold State.clearNmi; split <;> rfl
@[simp] theorem State.clearNmi_pc : (s.clearNmi w).pc = s.pc := by
  unfold State.clearNmi; split <;> rfl
@[simp] theorem State.clearNmi_p : (s.clearNmi w).p = s.p := by
  unfold State.clearNmi; split <;> rfl
@[simp] theorem State.clearNmi_mem : (s.clearNmi w).mem = s.mem := by
  unfold State.clearNmi; split <;> rfl
@[simp] theorem State.clearNmi_irqLate : (s.clearNmi w).irqLate = s.irqLate := by
  unfold State.clearNmi; split <;> rfl
@[simp] theorem State.clearNmi_irqLine : (s.clearNmi w).irqLine = s.irqLine := by
  unfold State.clearNmi; split <;> rfl
@[simp] theorem State.clearNmi_inputs : (s.clearNmi w).inputs = s.inputs := by
  unfold State.clearNmi; split <;> rfl
@[simp] theorem State.clearNmi_memMap : (s.clearNmi w).memMap = s.memMap := by
  unfold State.clearNmi; split <;> rfl
@[simp] theorem State.clearNmi_events : (s.clearNmi w).events = s.events := by
  unfold State.clearNmi; split <;> rfl
@[simp] theorem State.clearNmi_draws : (s.clearNmi w).draws = s.draws := by
  unfold State.clearNmi; split <;> rfl
@[simp] theorem State.clearNmi_irqHeld : (s.clearNmi w).irqHeld = s.irqHeld := by
  unfold State.clearNmi; split <;> rfl
@[simp] theorem State.clearNmi_brkNmi : (s.clearNmi w).brkNmi = s.brkNmi := by
  unfold State.clearNmi; split <;> rfl
@[simp] theorem State.clearNmi_peek (k : Word) : (s.clearNmi w).peek k = s.peek k := by
  unfold State.clearNmi; split <;> rfl
@[simp] theorem State.clearNmi_kindAt (k : Word) : (s.clearNmi w).kindAt k = s.kindAt k := by
  unfold State.clearNmi; split <;> rfl

@[simp] theorem State.clearNmi_nmiPending : (s.clearNmi w).nmiPending = (s.nmiPending && decide (w ≠ nmiVector)) := by
  unfold State.clearNmi; split <;> simp_all

@[simp] theorem State.clearNmi_nmiHeld : (s.clearNmi w).nmiHeld = (s.nmiHeld && decide (w ≠ nmiVector)) := by
  unfold State.clearNmi; split <;> simp_all

end Sys2Proof.Machine
end

