-- ==== Sys2Proof/Laws/Ops.lean ====
section
/-! SUPPORT. What each shared operation can do, said once: the fields it leaves alone, and the cases of MemRead and
MemWrite. Later proofs cite these instead of unfolding the operations. -/

namespace Sys2Proof.Machine

variable (s : State) (a : Word) (v : Byte)

/-- MemRead changes nothing but the counter of draws and the events, and those only off RAM and ROM (R52). -/
theorem State.memRead_cases :
    ((s.kindAt a = .ram ∨ s.kindAt a = .rom) ∧ s.memRead a = (s.peek a, s)) ∨
    (s.kindAt a = .absent ∧ s.memRead a = (Config.drawByte s.draws, { s with draws := s.draws + 1 })) ∨
    (s.kindAt a = .device false ∧ s.memRead a = (Config.drawByte s.draws, { s with draws := s.draws + 1 })) ∨
    (s.kindAt a = .device true ∧ s.memRead a = (Config.drawByte s.draws,
      { s with draws := s.draws + 1, events := s.events ++ [.read a (Config.drawByte s.draws)] })) := by
  unfold State.memRead
  cases h : s.kindAt a with
  | device r => cases r <;> simp [State.drawByte]
  | _ => simp [State.drawByte]

/-- MemWrite changes memory at RAM, appends an event at a device, and changes nothing elsewhere (R53). -/
theorem State.memWrite_cases :
    (s.kindAt a = .ram ∧ s.memWrite a v = { s with mem := s.mem.write a.toNat v }) ∨
    ((s.kindAt a = .rom ∨ s.kindAt a = .absent) ∧ s.memWrite a v = s) ∨
    (∃ r, s.kindAt a = .device r ∧ s.memWrite a v = { s with events := s.events ++ [.write a v] }) := by
  unfold State.memWrite
  cases h : s.kindAt a <;> simp

/-- A read of RAM or ROM gives the stored byte and changes nothing (R52, R59). -/
theorem State.memRead_stored (h : s.kindAt a = .ram ∨ s.kindAt a = .rom) : s.memRead a = (s.peek a, s) := by
  unfold State.memRead
  rcases h with h | h <;> simp [h]

/-- A write to RAM stores (R53). -/
theorem State.memWrite_ram (h : s.kindAt a = .ram) : s.memWrite a v = { s with mem := s.mem.write a.toNat v } := by
  simp [State.memWrite, h]

/-! ### Reads leave everything but draws and events -/

@[simp] theorem State.memRead_a : ((s.memRead a).2).a = s.a := by
  rcases s.memRead_cases a with h | h | h | h <;> rw [h.2]
@[simp] theorem State.memRead_x : ((s.memRead a).2).x = s.x := by
  rcases s.memRead_cases a with h | h | h | h <;> rw [h.2]
@[simp] theorem State.memRead_y : ((s.memRead a).2).y = s.y := by
  rcases s.memRead_cases a with h | h | h | h <;> rw [h.2]
@[simp] theorem State.memRead_sp : ((s.memRead a).2).sp = s.sp := by
  rcases s.memRead_cases a with h | h | h | h <;> rw [h.2]
@[simp] theorem State.memRead_pc : ((s.memRead a).2).pc = s.pc := by
  rcases s.memRead_cases a with h | h | h | h <;> rw [h.2]
@[simp] theorem State.memRead_p : ((s.memRead a).2).p = s.p := by
  rcases s.memRead_cases a with h | h | h | h <;> rw [h.2]
@[simp] theorem State.memRead_mem : ((s.memRead a).2).mem = s.mem := by
  rcases s.memRead_cases a with h | h | h | h <;> rw [h.2]
@[simp] theorem State.memRead_nmiPending : ((s.memRead a).2).nmiPending = s.nmiPending := by
  rcases s.memRead_cases a with h | h | h | h <;> rw [h.2]
@[simp] theorem State.memRead_irqLate : ((s.memRead a).2).irqLate = s.irqLate := by
  rcases s.memRead_cases a with h | h | h | h <;> rw [h.2]
@[simp] theorem State.memRead_irqLine : ((s.memRead a).2).irqLine = s.irqLine := by
  rcases s.memRead_cases a with h | h | h | h <;> rw [h.2]
@[simp] theorem State.memRead_inputs : ((s.memRead a).2).inputs = s.inputs := by
  rcases s.memRead_cases a with h | h | h | h <;> rw [h.2]
@[simp] theorem State.memRead_memMap : ((s.memRead a).2).memMap = s.memMap := by
  rcases s.memRead_cases a with h | h | h | h <;> rw [h.2]
@[simp] theorem State.memRead_nmiHeld : ((s.memRead a).2).nmiHeld = s.nmiHeld := by
  rcases s.memRead_cases a with h | h | h | h <;> rw [h.2]
@[simp] theorem State.memRead_irqHeld : ((s.memRead a).2).irqHeld = s.irqHeld := by
  rcases s.memRead_cases a with h | h | h | h <;> rw [h.2]
@[simp] theorem State.memRead_brkNmi : ((s.memRead a).2).brkNmi = s.brkNmi := by
  rcases s.memRead_cases a with h | h | h | h <;> rw [h.2]
@[simp] theorem State.memRead_peek (k : Word) : ((s.memRead a).2).peek k = s.peek k := by
  rcases s.memRead_cases a with h | h | h | h <;> rw [h.2] <;> rfl
@[simp] theorem State.memRead_kindAt (k : Word) : ((s.memRead a).2).kindAt k = s.kindAt k := by
  rcases s.memRead_cases a with h | h | h | h <;> rw [h.2] <;> rfl

@[simp] theorem State.read16_a : ((s.read16 a).2).a = s.a := by
  simp [State.read16]
@[simp] theorem State.read16_x : ((s.read16 a).2).x = s.x := by
  simp [State.read16]
@[simp] theorem State.read16_y : ((s.read16 a).2).y = s.y := by
  simp [State.read16]
@[simp] theorem State.read16_sp : ((s.read16 a).2).sp = s.sp := by
  simp [State.read16]
@[simp] theorem State.read16_pc : ((s.read16 a).2).pc = s.pc := by
  simp [State.read16]
@[simp] theorem State.read16_p : ((s.read16 a).2).p = s.p := by
  simp [State.read16]
@[simp] theorem State.read16_mem : ((s.read16 a).2).mem = s.mem := by
  simp [State.read16]
@[simp] theorem State.read16_nmiPending : ((s.read16 a).2).nmiPending = s.nmiPending := by
  simp [State.read16]
@[simp] theorem State.read16_irqLate : ((s.read16 a).2).irqLate = s.irqLate := by
  simp [State.read16]
@[simp] theorem State.read16_irqLine : ((s.read16 a).2).irqLine = s.irqLine := by
  simp [State.read16]
@[simp] theorem State.read16_inputs : ((s.read16 a).2).inputs = s.inputs := by
  simp [State.read16]
@[simp] theorem State.read16_memMap : ((s.read16 a).2).memMap = s.memMap := by
  simp [State.read16]
@[simp] theorem State.read16_nmiHeld : ((s.read16 a).2).nmiHeld = s.nmiHeld := by
  simp [State.read16]
@[simp] theorem State.read16_irqHeld : ((s.read16 a).2).irqHeld = s.irqHeld := by
  simp [State.read16]
@[simp] theorem State.read16_brkNmi : ((s.read16 a).2).brkNmi = s.brkNmi := by
  simp [State.read16]
@[simp] theorem State.read16_peek (k : Word) : ((s.read16 a).2).peek k = s.peek k := by
  simp [State.read16]
@[simp] theorem State.read16_kindAt (k : Word) : ((s.read16 a).2).kindAt k = s.kindAt k := by
  simp [State.read16]

@[simp] theorem State.readZp16_a : ((s.readZp16 v).2).a = s.a := by
  simp [State.readZp16]
@[simp] theorem State.readZp16_x : ((s.readZp16 v).2).x = s.x := by
  simp [State.readZp16]
@[simp] theorem State.readZp16_y : ((s.readZp16 v).2).y = s.y := by
  simp [State.readZp16]
@[simp] theorem State.readZp16_sp : ((s.readZp16 v).2).sp = s.sp := by
  simp [State.readZp16]
@[simp] theorem State.readZp16_pc : ((s.readZp16 v).2).pc = s.pc := by
  simp [State.readZp16]
@[simp] theorem State.readZp16_p : ((s.readZp16 v).2).p = s.p := by
  simp [State.readZp16]
@[simp] theorem State.readZp16_mem : ((s.readZp16 v).2).mem = s.mem := by
  simp [State.readZp16]
@[simp] theorem State.readZp16_nmiPending : ((s.readZp16 v).2).nmiPending = s.nmiPending := by
  simp [State.readZp16]
@[simp] theorem State.readZp16_irqLate : ((s.readZp16 v).2).irqLate = s.irqLate := by
  simp [State.readZp16]
@[simp] theorem State.readZp16_irqLine : ((s.readZp16 v).2).irqLine = s.irqLine := by
  simp [State.readZp16]
@[simp] theorem State.readZp16_inputs : ((s.readZp16 v).2).inputs = s.inputs := by
  simp [State.readZp16]
@[simp] theorem State.readZp16_memMap : ((s.readZp16 v).2).memMap = s.memMap := by
  simp [State.readZp16]
@[simp] theorem State.readZp16_nmiHeld : ((s.readZp16 v).2).nmiHeld = s.nmiHeld := by
  simp [State.readZp16]
@[simp] theorem State.readZp16_irqHeld : ((s.readZp16 v).2).irqHeld = s.irqHeld := by
  simp [State.readZp16]
@[simp] theorem State.readZp16_brkNmi : ((s.readZp16 v).2).brkNmi = s.brkNmi := by
  simp [State.readZp16]
@[simp] theorem State.readZp16_peek (k : Word) : ((s.readZp16 v).2).peek k = s.peek k := by
  simp [State.readZp16]
@[simp] theorem State.readZp16_kindAt (k : Word) : ((s.readZp16 v).2).kindAt k = s.kindAt k := by
  simp [State.readZp16]

@[simp] theorem effAddr_a (m : MemForm) : ((effAddr m s).2).a = s.a := by
  cases m <;> simp [effAddr]
@[simp] theorem effAddr_x (m : MemForm) : ((effAddr m s).2).x = s.x := by
  cases m <;> simp [effAddr]
@[simp] theorem effAddr_y (m : MemForm) : ((effAddr m s).2).y = s.y := by
  cases m <;> simp [effAddr]
@[simp] theorem effAddr_sp (m : MemForm) : ((effAddr m s).2).sp = s.sp := by
  cases m <;> simp [effAddr]
@[simp] theorem effAddr_pc (m : MemForm) : ((effAddr m s).2).pc = s.pc := by
  cases m <;> simp [effAddr]
@[simp] theorem effAddr_p (m : MemForm) : ((effAddr m s).2).p = s.p := by
  cases m <;> simp [effAddr]
@[simp] theorem effAddr_mem (m : MemForm) : ((effAddr m s).2).mem = s.mem := by
  cases m <;> simp [effAddr]
@[simp] theorem effAddr_nmiPending (m : MemForm) : ((effAddr m s).2).nmiPending = s.nmiPending := by
  cases m <;> simp [effAddr]
@[simp] theorem effAddr_irqLate (m : MemForm) : ((effAddr m s).2).irqLate = s.irqLate := by
  cases m <;> simp [effAddr]
@[simp] theorem effAddr_irqLine (m : MemForm) : ((effAddr m s).2).irqLine = s.irqLine := by
  cases m <;> simp [effAddr]
@[simp] theorem effAddr_inputs (m : MemForm) : ((effAddr m s).2).inputs = s.inputs := by
  cases m <;> simp [effAddr]
@[simp] theorem effAddr_memMap (m : MemForm) : ((effAddr m s).2).memMap = s.memMap := by
  cases m <;> simp [effAddr]
@[simp] theorem effAddr_nmiHeld (m : MemForm) : ((effAddr m s).2).nmiHeld = s.nmiHeld := by
  cases m <;> simp [effAddr]
@[simp] theorem effAddr_irqHeld (m : MemForm) : ((effAddr m s).2).irqHeld = s.irqHeld := by
  cases m <;> simp [effAddr]
@[simp] theorem effAddr_brkNmi (m : MemForm) : ((effAddr m s).2).brkNmi = s.brkNmi := by
  cases m <;> simp [effAddr]
@[simp] theorem effAddr_peek (m : MemForm) (k : Word) : ((effAddr m s).2).peek k = s.peek k := by
  cases m <;> simp [effAddr]
@[simp] theorem effAddr_kindAt (m : MemForm) (k : Word) : ((effAddr m s).2).kindAt k = s.kindAt k := by
  cases m <;> simp [effAddr]

@[simp] theorem readMem_a (m : MemForm) : ((readMem m s).2).a = s.a := by
  simp [readMem]
@[simp] theorem readMem_x (m : MemForm) : ((readMem m s).2).x = s.x := by
  simp [readMem]
@[simp] theorem readMem_y (m : MemForm) : ((readMem m s).2).y = s.y := by
  simp [readMem]
@[simp] theorem readMem_sp (m : MemForm) : ((readMem m s).2).sp = s.sp := by
  simp [readMem]
@[simp] theorem readMem_pc (m : MemForm) : ((readMem m s).2).pc = s.pc := by
  simp [readMem]
@[simp] theorem readMem_p (m : MemForm) : ((readMem m s).2).p = s.p := by
  simp [readMem]
@[simp] theorem readMem_mem (m : MemForm) : ((readMem m s).2).mem = s.mem := by
  simp [readMem]
@[simp] theorem readMem_nmiPending (m : MemForm) : ((readMem m s).2).nmiPending = s.nmiPending := by
  simp [readMem]
@[simp] theorem readMem_irqLate (m : MemForm) : ((readMem m s).2).irqLate = s.irqLate := by
  simp [readMem]
@[simp] theorem readMem_irqLine (m : MemForm) : ((readMem m s).2).irqLine = s.irqLine := by
  simp [readMem]
@[simp] theorem readMem_inputs (m : MemForm) : ((readMem m s).2).inputs = s.inputs := by
  simp [readMem]
@[simp] theorem readMem_memMap (m : MemForm) : ((readMem m s).2).memMap = s.memMap := by
  simp [readMem]
@[simp] theorem readMem_nmiHeld (m : MemForm) : ((readMem m s).2).nmiHeld = s.nmiHeld := by
  simp [readMem]
@[simp] theorem readMem_irqHeld (m : MemForm) : ((readMem m s).2).irqHeld = s.irqHeld := by
  simp [readMem]
@[simp] theorem readMem_brkNmi (m : MemForm) : ((readMem m s).2).brkNmi = s.brkNmi := by
  simp [readMem]
@[simp] theorem readMem_peek (m : MemForm) (k : Word) : ((readMem m s).2).peek k = s.peek k := by
  simp [readMem]
@[simp] theorem readMem_kindAt (m : MemForm) (k : Word) : ((readMem m s).2).kindAt k = s.kindAt k := by
  simp [readMem]

@[simp] theorem readSource_a (src : Source) : ((readSource src s).2).a = s.a := by
  cases src <;> simp [readSource]
@[simp] theorem readSource_x (src : Source) : ((readSource src s).2).x = s.x := by
  cases src <;> simp [readSource]
@[simp] theorem readSource_y (src : Source) : ((readSource src s).2).y = s.y := by
  cases src <;> simp [readSource]
@[simp] theorem readSource_sp (src : Source) : ((readSource src s).2).sp = s.sp := by
  cases src <;> simp [readSource]
@[simp] theorem readSource_pc (src : Source) : ((readSource src s).2).pc = s.pc := by
  cases src <;> simp [readSource]
@[simp] theorem readSource_p (src : Source) : ((readSource src s).2).p = s.p := by
  cases src <;> simp [readSource]
@[simp] theorem readSource_mem (src : Source) : ((readSource src s).2).mem = s.mem := by
  cases src <;> simp [readSource]
@[simp] theorem readSource_nmiPending (src : Source) : ((readSource src s).2).nmiPending = s.nmiPending := by
  cases src <;> simp [readSource]
@[simp] theorem readSource_irqLate (src : Source) : ((readSource src s).2).irqLate = s.irqLate := by
  cases src <;> simp [readSource]
@[simp] theorem readSource_irqLine (src : Source) : ((readSource src s).2).irqLine = s.irqLine := by
  cases src <;> simp [readSource]
@[simp] theorem readSource_inputs (src : Source) : ((readSource src s).2).inputs = s.inputs := by
  cases src <;> simp [readSource]
@[simp] theorem readSource_memMap (src : Source) : ((readSource src s).2).memMap = s.memMap := by
  cases src <;> simp [readSource]
@[simp] theorem readSource_nmiHeld (src : Source) : ((readSource src s).2).nmiHeld = s.nmiHeld := by
  cases src <;> simp [readSource]
@[simp] theorem readSource_irqHeld (src : Source) : ((readSource src s).2).irqHeld = s.irqHeld := by
  cases src <;> simp [readSource]
@[simp] theorem readSource_brkNmi (src : Source) : ((readSource src s).2).brkNmi = s.brkNmi := by
  cases src <;> simp [readSource]
@[simp] theorem readSource_peek (src : Source) (k : Word) : ((readSource src s).2).peek k = s.peek k := by
  cases src <;> simp [readSource]
@[simp] theorem readSource_kindAt (src : Source) (k : Word) : ((readSource src s).2).kindAt k = s.kindAt k := by
  cases src <;> simp [readSource]

@[simp] theorem indirectTarget_a : ((indirectTarget a s).2).a = s.a := by
  simp [indirectTarget]
@[simp] theorem indirectTarget_x : ((indirectTarget a s).2).x = s.x := by
  simp [indirectTarget]
@[simp] theorem indirectTarget_y : ((indirectTarget a s).2).y = s.y := by
  simp [indirectTarget]
@[simp] theorem indirectTarget_sp : ((indirectTarget a s).2).sp = s.sp := by
  simp [indirectTarget]
@[simp] theorem indirectTarget_pc : ((indirectTarget a s).2).pc = s.pc := by
  simp [indirectTarget]
@[simp] theorem indirectTarget_p : ((indirectTarget a s).2).p = s.p := by
  simp [indirectTarget]
@[simp] theorem indirectTarget_mem : ((indirectTarget a s).2).mem = s.mem := by
  simp [indirectTarget]
@[simp] theorem indirectTarget_nmiPending : ((indirectTarget a s).2).nmiPending = s.nmiPending := by
  simp [indirectTarget]
@[simp] theorem indirectTarget_irqLate : ((indirectTarget a s).2).irqLate = s.irqLate := by
  simp [indirectTarget]
@[simp] theorem indirectTarget_irqLine : ((indirectTarget a s).2).irqLine = s.irqLine := by
  simp [indirectTarget]
@[simp] theorem indirectTarget_inputs : ((indirectTarget a s).2).inputs = s.inputs := by
  simp [indirectTarget]
@[simp] theorem indirectTarget_memMap : ((indirectTarget a s).2).memMap = s.memMap := by
  simp [indirectTarget]
@[simp] theorem indirectTarget_nmiHeld : ((indirectTarget a s).2).nmiHeld = s.nmiHeld := by
  simp [indirectTarget]
@[simp] theorem indirectTarget_irqHeld : ((indirectTarget a s).2).irqHeld = s.irqHeld := by
  simp [indirectTarget]
@[simp] theorem indirectTarget_brkNmi : ((indirectTarget a s).2).brkNmi = s.brkNmi := by
  simp [indirectTarget]
@[simp] theorem indirectTarget_peek (k : Word) : ((indirectTarget a s).2).peek k = s.peek k := by
  simp [indirectTarget]
@[simp] theorem indirectTarget_kindAt (k : Word) : ((indirectTarget a s).2).kindAt k = s.kindAt k := by
  simp [indirectTarget]

/-! ### Writes leave every register -/

@[simp] theorem State.memWrite_a : (s.memWrite a v).a = s.a := by
  rcases s.memWrite_cases a v with h | h | ⟨_, h⟩ <;> rw [h.2]
@[simp] theorem State.memWrite_x : (s.memWrite a v).x = s.x := by
  rcases s.memWrite_cases a v with h | h | ⟨_, h⟩ <;> rw [h.2]
@[simp] theorem State.memWrite_y : (s.memWrite a v).y = s.y := by
  rcases s.memWrite_cases a v with h | h | ⟨_, h⟩ <;> rw [h.2]
@[simp] theorem State.memWrite_sp : (s.memWrite a v).sp = s.sp := by
  rcases s.memWrite_cases a v with h | h | ⟨_, h⟩ <;> rw [h.2]
@[simp] theorem State.memWrite_pc : (s.memWrite a v).pc = s.pc := by
  rcases s.memWrite_cases a v with h | h | ⟨_, h⟩ <;> rw [h.2]
@[simp] theorem State.memWrite_p : (s.memWrite a v).p = s.p := by
  rcases s.memWrite_cases a v with h | h | ⟨_, h⟩ <;> rw [h.2]
@[simp] theorem State.memWrite_nmiPending : (s.memWrite a v).nmiPending = s.nmiPending := by
  rcases s.memWrite_cases a v with h | h | ⟨_, h⟩ <;> rw [h.2]
@[simp] theorem State.memWrite_irqLate : (s.memWrite a v).irqLate = s.irqLate := by
  rcases s.memWrite_cases a v with h | h | ⟨_, h⟩ <;> rw [h.2]
@[simp] theorem State.memWrite_irqLine : (s.memWrite a v).irqLine = s.irqLine := by
  rcases s.memWrite_cases a v with h | h | ⟨_, h⟩ <;> rw [h.2]
@[simp] theorem State.memWrite_inputs : (s.memWrite a v).inputs = s.inputs := by
  rcases s.memWrite_cases a v with h | h | ⟨_, h⟩ <;> rw [h.2]
@[simp] theorem State.memWrite_memMap : (s.memWrite a v).memMap = s.memMap := by
  rcases s.memWrite_cases a v with h | h | ⟨_, h⟩ <;> rw [h.2]
@[simp] theorem State.memWrite_draws : (s.memWrite a v).draws = s.draws := by
  rcases s.memWrite_cases a v with h | h | ⟨_, h⟩ <;> rw [h.2]
@[simp] theorem State.memWrite_nmiHeld : (s.memWrite a v).nmiHeld = s.nmiHeld := by
  rcases s.memWrite_cases a v with h | h | ⟨_, h⟩ <;> rw [h.2]
@[simp] theorem State.memWrite_irqHeld : (s.memWrite a v).irqHeld = s.irqHeld := by
  rcases s.memWrite_cases a v with h | h | ⟨_, h⟩ <;> rw [h.2]
@[simp] theorem State.memWrite_brkNmi : (s.memWrite a v).brkNmi = s.brkNmi := by
  rcases s.memWrite_cases a v with h | h | ⟨_, h⟩ <;> rw [h.2]
@[simp] theorem State.memWrite_kindAt (k : Word) : (s.memWrite a v).kindAt k = s.kindAt k := by
  rcases s.memWrite_cases a v with h | h | ⟨_, h⟩ <;> rw [h.2] <;> rfl

@[simp] theorem writeMem_a (m : MemForm) : (writeMem m v s).a = s.a := by
  simp [writeMem]
@[simp] theorem writeMem_x (m : MemForm) : (writeMem m v s).x = s.x := by
  simp [writeMem]
@[simp] theorem writeMem_y (m : MemForm) : (writeMem m v s).y = s.y := by
  simp [writeMem]
@[simp] theorem writeMem_sp (m : MemForm) : (writeMem m v s).sp = s.sp := by
  simp [writeMem]
@[simp] theorem writeMem_pc (m : MemForm) : (writeMem m v s).pc = s.pc := by
  simp [writeMem]
@[simp] theorem writeMem_p (m : MemForm) : (writeMem m v s).p = s.p := by
  simp [writeMem]
@[simp] theorem writeMem_nmiPending (m : MemForm) : (writeMem m v s).nmiPending = s.nmiPending := by
  simp [writeMem]
@[simp] theorem writeMem_irqLate (m : MemForm) : (writeMem m v s).irqLate = s.irqLate := by
  simp [writeMem]
@[simp] theorem writeMem_irqLine (m : MemForm) : (writeMem m v s).irqLine = s.irqLine := by
  simp [writeMem]
@[simp] theorem writeMem_inputs (m : MemForm) : (writeMem m v s).inputs = s.inputs := by
  simp [writeMem]
@[simp] theorem writeMem_memMap (m : MemForm) : (writeMem m v s).memMap = s.memMap := by
  simp [writeMem]
@[simp] theorem writeMem_nmiHeld (m : MemForm) : (writeMem m v s).nmiHeld = s.nmiHeld := by
  simp [writeMem]
@[simp] theorem writeMem_irqHeld (m : MemForm) : (writeMem m v s).irqHeld = s.irqHeld := by
  simp [writeMem]
@[simp] theorem writeMem_brkNmi (m : MemForm) : (writeMem m v s).brkNmi = s.brkNmi := by
  simp [writeMem]
@[simp] theorem writeMem_kindAt (m : MemForm) (k : Word) : (writeMem m v s).kindAt k = s.kindAt k := by
  simp [writeMem]

@[simp] theorem modifyMem_a (m : MemForm) (f : Byte → Byte) : ((modifyMem m f s).2).a = s.a := by
  simp [modifyMem]
@[simp] theorem modifyMem_x (m : MemForm) (f : Byte → Byte) : ((modifyMem m f s).2).x = s.x := by
  simp [modifyMem]
@[simp] theorem modifyMem_y (m : MemForm) (f : Byte → Byte) : ((modifyMem m f s).2).y = s.y := by
  simp [modifyMem]
@[simp] theorem modifyMem_sp (m : MemForm) (f : Byte → Byte) : ((modifyMem m f s).2).sp = s.sp := by
  simp [modifyMem]
@[simp] theorem modifyMem_pc (m : MemForm) (f : Byte → Byte) : ((modifyMem m f s).2).pc = s.pc := by
  simp [modifyMem]
@[simp] theorem modifyMem_p (m : MemForm) (f : Byte → Byte) : ((modifyMem m f s).2).p = s.p := by
  simp [modifyMem]
@[simp] theorem modifyMem_nmiPending (m : MemForm) (f : Byte → Byte) : ((modifyMem m f s).2).nmiPending = s.nmiPending := by
  simp [modifyMem]
@[simp] theorem modifyMem_irqLate (m : MemForm) (f : Byte → Byte) : ((modifyMem m f s).2).irqLate = s.irqLate := by
  simp [modifyMem]
@[simp] theorem modifyMem_irqLine (m : MemForm) (f : Byte → Byte) : ((modifyMem m f s).2).irqLine = s.irqLine := by
  simp [modifyMem]
@[simp] theorem modifyMem_inputs (m : MemForm) (f : Byte → Byte) : ((modifyMem m f s).2).inputs = s.inputs := by
  simp [modifyMem]
@[simp] theorem modifyMem_memMap (m : MemForm) (f : Byte → Byte) : ((modifyMem m f s).2).memMap = s.memMap := by
  simp [modifyMem]
@[simp] theorem modifyMem_nmiHeld (m : MemForm) (f : Byte → Byte) : ((modifyMem m f s).2).nmiHeld = s.nmiHeld := by
  simp [modifyMem]
@[simp] theorem modifyMem_irqHeld (m : MemForm) (f : Byte → Byte) : ((modifyMem m f s).2).irqHeld = s.irqHeld := by
  simp [modifyMem]
@[simp] theorem modifyMem_brkNmi (m : MemForm) (f : Byte → Byte) : ((modifyMem m f s).2).brkNmi = s.brkNmi := by
  simp [modifyMem]
@[simp] theorem modifyMem_kindAt (m : MemForm) (f : Byte → Byte) (k : Word) : ((modifyMem m f s).2).kindAt k = s.kindAt k := by
  simp [modifyMem]

@[simp] theorem modifyPlace_x (pl : Place) (f : Byte → Byte) : ((modifyPlace pl f s).2).x = s.x := by
  cases pl <;> simp [modifyPlace, modifyAcc]
@[simp] theorem modifyPlace_y (pl : Place) (f : Byte → Byte) : ((modifyPlace pl f s).2).y = s.y := by
  cases pl <;> simp [modifyPlace, modifyAcc]
@[simp] theorem modifyPlace_sp (pl : Place) (f : Byte → Byte) : ((modifyPlace pl f s).2).sp = s.sp := by
  cases pl <;> simp [modifyPlace, modifyAcc]
@[simp] theorem modifyPlace_pc (pl : Place) (f : Byte → Byte) : ((modifyPlace pl f s).2).pc = s.pc := by
  cases pl <;> simp [modifyPlace, modifyAcc]
@[simp] theorem modifyPlace_p (pl : Place) (f : Byte → Byte) : ((modifyPlace pl f s).2).p = s.p := by
  cases pl <;> simp [modifyPlace, modifyAcc]
@[simp] theorem modifyPlace_nmiPending (pl : Place) (f : Byte → Byte) : ((modifyPlace pl f s).2).nmiPending = s.nmiPending := by
  cases pl <;> simp [modifyPlace, modifyAcc]
@[simp] theorem modifyPlace_irqLate (pl : Place) (f : Byte → Byte) : ((modifyPlace pl f s).2).irqLate = s.irqLate := by
  cases pl <;> simp [modifyPlace, modifyAcc]
@[simp] theorem modifyPlace_irqLine (pl : Place) (f : Byte → Byte) : ((modifyPlace pl f s).2).irqLine = s.irqLine := by
  cases pl <;> simp [modifyPlace, modifyAcc]
@[simp] theorem modifyPlace_inputs (pl : Place) (f : Byte → Byte) : ((modifyPlace pl f s).2).inputs = s.inputs := by
  cases pl <;> simp [modifyPlace, modifyAcc]
@[simp] theorem modifyPlace_memMap (pl : Place) (f : Byte → Byte) : ((modifyPlace pl f s).2).memMap = s.memMap := by
  cases pl <;> simp [modifyPlace, modifyAcc]
@[simp] theorem modifyPlace_nmiHeld (pl : Place) (f : Byte → Byte) : ((modifyPlace pl f s).2).nmiHeld = s.nmiHeld := by
  cases pl <;> simp [modifyPlace, modifyAcc]
@[simp] theorem modifyPlace_irqHeld (pl : Place) (f : Byte → Byte) : ((modifyPlace pl f s).2).irqHeld = s.irqHeld := by
  cases pl <;> simp [modifyPlace, modifyAcc]
@[simp] theorem modifyPlace_brkNmi (pl : Place) (f : Byte → Byte) : ((modifyPlace pl f s).2).brkNmi = s.brkNmi := by
  cases pl <;> simp [modifyPlace, modifyAcc]
@[simp] theorem modifyPlace_kindAt (pl : Place) (f : Byte → Byte) (k : Word) : ((modifyPlace pl f s).2).kindAt k = s.kindAt k := by
  cases pl <;> simp [modifyPlace, modifyAcc]

/-! ### The stack -/

@[simp] theorem State.push_a : (s.push v).a = s.a := by
  simp [State.push]
@[simp] theorem State.push_x : (s.push v).x = s.x := by
  simp [State.push]
@[simp] theorem State.push_y : (s.push v).y = s.y := by
  simp [State.push]
@[simp] theorem State.push_pc : (s.push v).pc = s.pc := by
  simp [State.push]
@[simp] theorem State.push_p : (s.push v).p = s.p := by
  simp [State.push]
@[simp] theorem State.push_nmiPending : (s.push v).nmiPending = s.nmiPending := by
  simp [State.push]
@[simp] theorem State.push_irqLate : (s.push v).irqLate = s.irqLate := by
  simp [State.push]
@[simp] theorem State.push_irqLine : (s.push v).irqLine = s.irqLine := by
  simp [State.push]
@[simp] theorem State.push_inputs : (s.push v).inputs = s.inputs := by
  simp [State.push]
@[simp] theorem State.push_memMap : (s.push v).memMap = s.memMap := by
  simp [State.push]
@[simp] theorem State.push_draws : (s.push v).draws = s.draws := by
  simp [State.push]
@[simp] theorem State.push_nmiHeld : (s.push v).nmiHeld = s.nmiHeld := by
  simp [State.push]
@[simp] theorem State.push_irqHeld : (s.push v).irqHeld = s.irqHeld := by
  simp [State.push]
@[simp] theorem State.push_brkNmi : (s.push v).brkNmi = s.brkNmi := by
  simp [State.push]
@[simp] theorem State.push_kindAt (k : Word) : (s.push v).kindAt k = s.kindAt k := by
  simp [State.push]

@[simp] theorem State.push_sp : (s.push v).sp = s.sp - 1 := by simp [State.push]

@[simp] theorem State.pull_a : (s.pull.2).a = s.a := by
  simp [State.pull]
@[simp] theorem State.pull_x : (s.pull.2).x = s.x := by
  simp [State.pull]
@[simp] theorem State.pull_y : (s.pull.2).y = s.y := by
  simp [State.pull]
@[simp] theorem State.pull_pc : (s.pull.2).pc = s.pc := by
  simp [State.pull]
@[simp] theorem State.pull_p : (s.pull.2).p = s.p := by
  simp [State.pull]
@[simp] theorem State.pull_mem : (s.pull.2).mem = s.mem := by
  simp [State.pull]
@[simp] theorem State.pull_nmiPending : (s.pull.2).nmiPending = s.nmiPending := by
  simp [State.pull]
@[simp] theorem State.pull_irqLate : (s.pull.2).irqLate = s.irqLate := by
  simp [State.pull]
@[simp] theorem State.pull_irqLine : (s.pull.2).irqLine = s.irqLine := by
  simp [State.pull]
@[simp] theorem State.pull_inputs : (s.pull.2).inputs = s.inputs := by
  simp [State.pull]
@[simp] theorem State.pull_memMap : (s.pull.2).memMap = s.memMap := by
  simp [State.pull]
@[simp] theorem State.pull_nmiHeld : (s.pull.2).nmiHeld = s.nmiHeld := by
  simp [State.pull]
@[simp] theorem State.pull_irqHeld : (s.pull.2).irqHeld = s.irqHeld := by
  simp [State.pull]
@[simp] theorem State.pull_brkNmi : (s.pull.2).brkNmi = s.brkNmi := by
  simp [State.pull]
@[simp] theorem State.pull_peek (k : Word) : (s.pull.2).peek k = s.peek k := by
  simp [State.pull]
@[simp] theorem State.pull_kindAt (k : Word) : (s.pull.2).kindAt k = s.kindAt k := by
  simp [State.pull]

@[simp] theorem State.pull_sp : s.pull.2.sp = s.sp + 1 := by simp [State.pull]

@[simp] theorem State.pushWord_a : (s.pushWord a).a = s.a := by
  simp [State.pushWord]
@[simp] theorem State.pushWord_x : (s.pushWord a).x = s.x := by
  simp [State.pushWord]
@[simp] theorem State.pushWord_y : (s.pushWord a).y = s.y := by
  simp [State.pushWord]
@[simp] theorem State.pushWord_pc : (s.pushWord a).pc = s.pc := by
  simp [State.pushWord]
@[simp] theorem State.pushWord_p : (s.pushWord a).p = s.p := by
  simp [State.pushWord]
@[simp] theorem State.pushWord_nmiPending : (s.pushWord a).nmiPending = s.nmiPending := by
  simp [State.pushWord]
@[simp] theorem State.pushWord_irqLate : (s.pushWord a).irqLate = s.irqLate := by
  simp [State.pushWord]
@[simp] theorem State.pushWord_irqLine : (s.pushWord a).irqLine = s.irqLine := by
  simp [State.pushWord]
@[simp] theorem State.pushWord_inputs : (s.pushWord a).inputs = s.inputs := by
  simp [State.pushWord]
@[simp] theorem State.pushWord_memMap : (s.pushWord a).memMap = s.memMap := by
  simp [State.pushWord]
@[simp] theorem State.pushWord_draws : (s.pushWord a).draws = s.draws := by
  simp [State.pushWord]
@[simp] theorem State.pushWord_nmiHeld : (s.pushWord a).nmiHeld = s.nmiHeld := by
  simp [State.pushWord]
@[simp] theorem State.pushWord_irqHeld : (s.pushWord a).irqHeld = s.irqHeld := by
  simp [State.pushWord]
@[simp] theorem State.pushWord_brkNmi : (s.pushWord a).brkNmi = s.brkNmi := by
  simp [State.pushWord]
@[simp] theorem State.pushWord_kindAt (k : Word) : (s.pushWord a).kindAt k = s.kindAt k := by
  simp [State.pushWord]

@[simp] theorem State.pushWord_sp : (s.pushWord a).sp = s.sp - 2 := by
  simp only [State.pushWord, State.push_sp]; bv_omega

@[simp] theorem State.pullWord_a : (s.pullWord.2).a = s.a := by
  simp [State.pullWord]
@[simp] theorem State.pullWord_x : (s.pullWord.2).x = s.x := by
  simp [State.pullWord]
@[simp] theorem State.pullWord_y : (s.pullWord.2).y = s.y := by
  simp [State.pullWord]
@[simp] theorem State.pullWord_pc : (s.pullWord.2).pc = s.pc := by
  simp [State.pullWord]
@[simp] theorem State.pullWord_p : (s.pullWord.2).p = s.p := by
  simp [State.pullWord]
@[simp] theorem State.pullWord_mem : (s.pullWord.2).mem = s.mem := by
  simp [State.pullWord]
@[simp] theorem State.pullWord_nmiPending : (s.pullWord.2).nmiPending = s.nmiPending := by
  simp [State.pullWord]
@[simp] theorem State.pullWord_irqLate : (s.pullWord.2).irqLate = s.irqLate := by
  simp [State.pullWord]
@[simp] theorem State.pullWord_irqLine : (s.pullWord.2).irqLine = s.irqLine := by
  simp [State.pullWord]
@[simp] theorem State.pullWord_inputs : (s.pullWord.2).inputs = s.inputs := by
  simp [State.pullWord]
@[simp] theorem State.pullWord_memMap : (s.pullWord.2).memMap = s.memMap := by
  simp [State.pullWord]
@[simp] theorem State.pullWord_nmiHeld : (s.pullWord.2).nmiHeld = s.nmiHeld := by
  simp [State.pullWord]
@[simp] theorem State.pullWord_irqHeld : (s.pullWord.2).irqHeld = s.irqHeld := by
  simp [State.pullWord]
@[simp] theorem State.pullWord_brkNmi : (s.pullWord.2).brkNmi = s.brkNmi := by
  simp [State.pullWord]
@[simp] theorem State.pullWord_peek (k : Word) : (s.pullWord.2).peek k = s.peek k := by
  simp [State.pullWord]
@[simp] theorem State.pullWord_kindAt (k : Word) : (s.pullWord.2).kindAt k = s.kindAt k := by
  simp [State.pullWord]

@[simp] theorem State.pullWord_sp : s.pullWord.2.sp = s.sp + 2 := by
  simp only [State.pullWord, State.pull_sp]; bv_omega

/-! ### Taking an exception and returning from one -/

@[simp] theorem State.takeException_a (ret : Word) (brk : Bool) (vector : Word) : (s.takeException ret brk vector).a = s.a := by
  simp [State.takeException]
@[simp] theorem State.takeException_x (ret : Word) (brk : Bool) (vector : Word) : (s.takeException ret brk vector).x = s.x := by
  simp [State.takeException]
@[simp] theorem State.takeException_y (ret : Word) (brk : Bool) (vector : Word) : (s.takeException ret brk vector).y = s.y := by
  simp [State.takeException]
@[simp] theorem State.takeException_irqLate (ret : Word) (brk : Bool) (vector : Word) : (s.takeException ret brk vector).irqLate = s.irqLate := by
  simp [State.takeException]
@[simp] theorem State.takeException_irqLine (ret : Word) (brk : Bool) (vector : Word) : (s.takeException ret brk vector).irqLine = s.irqLine := by
  simp [State.takeException]
@[simp] theorem State.takeException_inputs (ret : Word) (brk : Bool) (vector : Word) : (s.takeException ret brk vector).inputs = s.inputs := by
  simp [State.takeException]
@[simp] theorem State.takeException_memMap (ret : Word) (brk : Bool) (vector : Word) : (s.takeException ret brk vector).memMap = s.memMap := by
  simp [State.takeException]
@[simp] theorem State.takeException_irqHeld (ret : Word) (brk : Bool) (vector : Word) : (s.takeException ret brk vector).irqHeld = s.irqHeld := by
  simp [State.takeException]
@[simp] theorem State.takeException_brkNmi (ret : Word) (brk : Bool) (vector : Word) : (s.takeException ret brk vector).brkNmi = s.brkNmi := by
  simp [State.takeException]
@[simp] theorem State.takeException_kindAt (ret : Word) (brk : Bool) (vector : Word) (k : Word) : (s.takeException ret brk vector).kindAt k = s.kindAt k := by
  simp [State.takeException]

/-- P after an exception is taken: I is set and nothing else changes (R176, R236). -/
@[simp] theorem State.takeException_p (ret : Word) (brk : Bool) (vector : Word) :
    (s.takeException ret brk vector).p = { s.p with i := true } := by
  simp [State.takeException]

/-- S after an exception is taken: three lower (R176, R236). -/
@[simp] theorem State.takeException_sp (ret : Word) (brk : Bool) (vector : Word) :
    (s.takeException ret brk vector).sp = s.sp - 3 := by
  simp only [State.takeException, State.setPc_sp, State.read16_sp, State.clearNmi_sp, State.setP_sp, State.push_sp,
    State.pushWord_sp]
  bv_omega

/-- The NMI latch after an exception: cleared exactly when the NMI vector is taken (R34, R236). -/
@[simp] theorem State.takeException_nmiPending (ret : Word) (brk : Bool) (vector : Word) :
    (s.takeException ret brk vector).nmiPending = (s.nmiPending && decide (vector ≠ nmiVector)) := by
  simp [State.takeException]

@[simp] theorem State.takeException_nmiHeld (ret : Word) (brk : Bool) (vector : Word) :
    (s.takeException ret brk vector).nmiHeld = (s.nmiHeld && decide (vector ≠ nmiVector)) := by
  simp [State.takeException]

@[simp] theorem State.returnFromException_a : (s.returnFromException).a = s.a := by
  simp [State.returnFromException]
@[simp] theorem State.returnFromException_x : (s.returnFromException).x = s.x := by
  simp [State.returnFromException]
@[simp] theorem State.returnFromException_y : (s.returnFromException).y = s.y := by
  simp [State.returnFromException]
@[simp] theorem State.returnFromException_mem : (s.returnFromException).mem = s.mem := by
  simp [State.returnFromException]
@[simp] theorem State.returnFromException_nmiPending : (s.returnFromException).nmiPending = s.nmiPending := by
  simp [State.returnFromException]
@[simp] theorem State.returnFromException_irqLate : (s.returnFromException).irqLate = s.irqLate := by
  simp [State.returnFromException]
@[simp] theorem State.returnFromException_irqLine : (s.returnFromException).irqLine = s.irqLine := by
  simp [State.returnFromException]
@[simp] theorem State.returnFromException_inputs : (s.returnFromException).inputs = s.inputs := by
  simp [State.returnFromException]
@[simp] theorem State.returnFromException_memMap : (s.returnFromException).memMap = s.memMap := by
  simp [State.returnFromException]
@[simp] theorem State.returnFromException_nmiHeld : (s.returnFromException).nmiHeld = s.nmiHeld := by
  simp [State.returnFromException]
@[simp] theorem State.returnFromException_irqHeld : (s.returnFromException).irqHeld = s.irqHeld := by
  simp [State.returnFromException]
@[simp] theorem State.returnFromException_brkNmi : (s.returnFromException).brkNmi = s.brkNmi := by
  simp [State.returnFromException]
@[simp] theorem State.returnFromException_peek (k : Word) : (s.returnFromException).peek k = s.peek k := by
  simp [State.returnFromException]
@[simp] theorem State.returnFromException_kindAt (k : Word) : (s.returnFromException).kindAt k = s.kindAt k := by
  simp [State.returnFromException]

/-- S after a return from an exception: three higher (R178). -/
@[simp] theorem State.returnFromException_sp : s.returnFromException.sp = s.sp + 3 := by
  simp only [State.returnFromException, State.setPc_sp, State.pullWord_sp, State.setP_sp, State.pull_sp]
  bv_omega

/-- P after a return from an exception: the six flags of the pulled byte (R178, R239). -/
@[simp] theorem State.returnFromException_p : s.returnFromException.p = setStatus s.pull.1 := by
  simp [State.returnFromException]

/-- A read takes no free value back. -/
theorem State.memRead_draws_le : s.draws ≤ (s.memRead a).2.draws := by
  rcases s.memRead_cases a with h | h | h | h <;> rw [h.2] <;> simp

/-! ### The memory -/

/-- MemWrite keeps the canonical form of memory. -/
theorem State.memWrite_wf (h : s.mem.wf = true) : (s.memWrite a v).mem.wf = true := by
  rcases s.memWrite_cases a v with e | e | ⟨_, e⟩ <;> rw [e.2]
  · exact Memory.write_wf h a.isLt
  · exact h
  · exact h

/-- MemWrite leaves every other address (R53). -/
theorem State.memWrite_peek_other {k : Word} (hk : k ≠ a) :
    (s.memWrite a v).peek k = s.peek k := by
  rcases s.memWrite_cases a v with e | e | ⟨_, e⟩ <;> rw [e.2]
  · exact Memory.read_write_other (fun he => hk (BitVec.eq_of_toNat_eq he))
  · rfl

/-- MemWrite changes nothing where the memory map does not say RAM (R53). -/
theorem State.memWrite_peek_notRam {k : Word} (hk : s.kindAt k ≠ .ram) :
    (s.memWrite a v).peek k = s.peek k := by
  by_cases e : k = a
  · subst e
    rcases s.memWrite_cases k v with e | e | ⟨_, e⟩
    · exact absurd e.1 hk
    · rw [e.2]
    · rw [e.2]; rfl
  · exact s.memWrite_peek_other a v e

/-- A byte written to RAM is read back (R62). -/
theorem State.memWrite_peek_same (hr : s.kindAt a = .ram) : (s.memWrite a v).peek a = v := by
  rw [s.memWrite_ram a v hr]
  exact Memory.read_write_same

/-- Push keeps the canonical form of memory. -/
theorem State.push_wf (h : s.mem.wf = true) : (s.push v).mem.wf = true := by
  simpa [State.push] using s.memWrite_wf _ _ h

/-- Push writes at the stack address only (R31). -/
theorem State.push_peek_other {k : Word} (hk : k ≠ stackAddr s.sp) :
    (s.push v).peek k = s.peek k := by
  simpa [State.push] using s.memWrite_peek_other _ _ hk

end Sys2Proof.Machine
end

