-- ==== Sys2Proof/Laws/Shape.lean ====
section
/-! SUPPORT. The shape of the state after each reading operation, the memory after the pushes, and what a pull after a push
gives: the facts that the results of instructions are read off from. -/

namespace Sys2Proof.Machine

variable (s : State) (a : Word) (v : Byte)

/-- MemRead answers the same state but for draws and events (R52). -/
theorem State.memRead_shape :
    (s.memRead a).2 = { s with draws := (s.memRead a).2.draws, events := (s.memRead a).2.events } := by
  ext <;> simp

/-- Computing an effective address changes draws and events alone. -/
theorem effAddr_shape (m : MemForm) :
    (effAddr m s).2 = { s with draws := (effAddr m s).2.draws, events := (effAddr m s).2.events } := by
  ext <;> simp

/-- Reading a data operand changes draws and events alone (R110). -/
theorem readSource_shape (src : Source) :
    (readSource src s).2 = { s with draws := (readSource src s).2.draws, events := (readSource src s).2.events } := by
  ext <;> simp

/-- A pull changes S, draws and events alone (R31). -/
theorem State.pull_shape :
    s.pull.2 = { s with sp := s.sp + 1, draws := s.pull.2.draws, events := s.pull.2.events } := by
  ext <;> simp

/-! ### The canonical form -/

theorem State.pushWord_wf (h : s.mem.wf = true) : (s.pushWord a).mem.wf = true :=
  State.push_wf _ _ (State.push_wf _ _ h)

theorem writeMem_wf (m : MemForm) (h : s.mem.wf = true) : (writeMem m v s).mem.wf = true :=
  State.memWrite_wf _ _ _ (by simpa using h)

theorem modifyMem_wf (m : MemForm) (f : Byte → Byte) (h : s.mem.wf = true) : (modifyMem m f s).2.mem.wf = true :=
  State.memWrite_wf _ _ _ (by simpa using h)

theorem modifyPlace_wf (pl : Place) (f : Byte → Byte) (h : s.mem.wf = true) : (modifyPlace pl f s).2.mem.wf = true := by
  cases pl with
  | acc => exact h
  | mem m => exact modifyMem_wf s m f h

theorem State.takeException_wf (ret : Word) (brk : Bool) (vector : Word) (h : s.mem.wf = true) :
    (s.takeException ret brk vector).mem.wf = true := by
  simpa [State.takeException] using State.push_wf _ _ (s.pushWord_wf ret h)

/-! ### What a write leaves alone -/

theorem writeMem_peek_other (m : MemForm) {k : Word} (hk : k ≠ (effAddr m s).1) :
    (writeMem m v s).peek k = s.peek k := by
  simpa [writeMem] using State.memWrite_peek_other (effAddr m s).2 _ v hk

theorem modifyMem_peek_other (m : MemForm) (f : Byte → Byte) {k : Word}
    (hk : k ≠ (effAddr m s).1) : (modifyMem m f s).2.peek k = s.peek k := by
  simpa [modifyMem] using
    State.memWrite_peek_other ((effAddr m s).2.memRead (effAddr m s).1).2 _ (f _) hk

theorem State.pushWord_peek_other {k : Word} (h0 : k ≠ stackAddr s.sp)
    (h1 : k ≠ stackAddr (s.sp - 1)) : (s.pushWord a).peek k = s.peek k := by
  rw [State.pushWord, State.push_peek_other _ _ (by simpa using h1), s.push_peek_other _ h0]

theorem State.takeException_peek_other (ret : Word) (brk : Bool) (vector : Word) {k : Word}
    (h0 : k ≠ stackAddr s.sp) (h1 : k ≠ stackAddr (s.sp - 1)) (h2 : k ≠ stackAddr (s.sp - 2)) :
    (s.takeException ret brk vector).peek k = s.peek k := by
  simp only [State.takeException, State.setPc_peek, State.read16_peek, State.clearNmi_peek, State.setP_peek]
  rw [State.push_peek_other _ _ (by simpa using h2), s.pushWord_peek_other _ h0 h1]

/-- Push changes nothing where the map does not say RAM (R53). -/
theorem State.push_peek_notRam {k : Word} (hk : s.kindAt k ≠ .ram) :
    (s.push v).peek k = s.peek k := by
  simpa [State.push] using s.memWrite_peek_notRam _ v hk

theorem State.pushWord_peek_notRam {k : Word} (hk : s.kindAt k ≠ .ram) :
    (s.pushWord a).peek k = s.peek k := by
  rw [State.pushWord, State.push_peek_notRam _ _ (by simpa using hk), s.push_peek_notRam _ hk]

theorem State.takeException_peek_notRam (ret : Word) (brk : Bool) (vector : Word) {k : Word}
    (hk : s.kindAt k ≠ .ram) : (s.takeException ret brk vector).peek k = s.peek k := by
  simp only [State.takeException, State.setPc_peek, State.read16_peek, State.clearNmi_peek, State.setP_peek]
  rw [State.push_peek_notRam _ _ (by simpa using hk), s.pushWord_peek_notRam _ hk]

theorem writeMem_peek_notRam (m : MemForm) {k : Word} (hk : s.kindAt k ≠ .ram) :
    (writeMem m v s).peek k = s.peek k := by
  simpa [writeMem] using State.memWrite_peek_notRam (effAddr m s).2 _ v (by simpa using hk)

theorem modifyPlace_peek_notRam (pl : Place) (f : Byte → Byte) {k : Word}
    (hk : s.kindAt k ≠ .ram) : (modifyPlace pl f s).2.peek k = s.peek k := by
  cases pl with
  | acc => rfl
  | mem m =>
    simpa [modifyPlace, modifyMem] using State.memWrite_peek_notRam ((effAddr m s).2.memRead (effAddr m s).1).2
      (effAddr m s).1 (f _) (by simpa using hk)

/-! ### What the pushes leave on a RAM stack -/

/-- A byte pushed on a RAM stack lies where S pointed (R31). -/
theorem State.push_peek_same (hr : s.kindAt (stackAddr s.sp) = .ram) :
    (s.push v).peek (stackAddr s.sp) = v := by
  simpa [State.push] using s.memWrite_peek_same _ v hr

/-- A word pushed on a RAM stack: high byte at S, low byte below it (R54, R172). -/
theorem State.pushWord_peek (h0 : s.kindAt (stackAddr s.sp) = .ram)
    (h1 : s.kindAt (stackAddr (s.sp - 1)) = .ram) :
    (s.pushWord a).peek (stackAddr s.sp) = hi a ∧ (s.pushWord a).peek (stackAddr (s.sp - 1)) = lo a := by
  have hne : s.sp ≠ s.sp - 1 := by bv_omega
  have hl := (s.push (hi a)).push_peek_same (lo a) (by simpa using h1)
  rw [State.push_sp] at hl
  refine ⟨?_, hl⟩
  rw [State.pushWord, State.push_peek_other _ _ (by simpa using hne), s.push_peek_same _ h0]

/-- What an exception leaves on a RAM stack (R176, R236). -/
theorem State.takeException_peek (ret : Word) (brk : Bool) (vector : Word)
    (h0 : s.kindAt (stackAddr s.sp) = .ram) (h1 : s.kindAt (stackAddr (s.sp - 1)) = .ram)
    (h2 : s.kindAt (stackAddr (s.sp - 2)) = .ram) :
    (s.takeException ret brk vector).peek (stackAddr s.sp) = hi ret ∧
    (s.takeException ret brk vector).peek (stackAddr (s.sp - 1)) = lo ret ∧
    (s.takeException ret brk vector).peek (stackAddr (s.sp - 2)) = statusByte s.p brk := by
  have hp := s.pushWord_peek ret h0 h1
  have hs := (s.pushWord ret).push_peek_same (statusByte s.p brk) (by simpa using h2)
  rw [State.pushWord_sp] at hs
  have n0 : s.sp ≠ s.sp - 2 := by bv_omega
  simp only [State.takeException, State.setPc_peek, State.read16_peek, State.clearNmi_peek, State.setP_peek]
  refine ⟨?_, ?_, hs⟩
  · rw [State.push_peek_other _ _ (by simpa using n0), hp.1]
  · rw [State.push_peek_other _ _ (by simp), hp.2]

/-! ### Reading stored bytes -/

/-- A word read from RAM or ROM, low byte first (R54). -/
theorem State.read16_stored (h0 : s.kindAt a = .ram ∨ s.kindAt a = .rom)
    (h1 : s.kindAt (a + 1) = .ram ∨ s.kindAt (a + 1) = .rom) :
    s.read16 a = (word (s.peek (a + 1)) (s.peek a), s) := by
  simp only [State.read16, s.memRead_stored a h0, s.memRead_stored (a + 1) h1]

/-- A pull from RAM or ROM (R31). -/
theorem State.pull_stored (h : s.kindAt (stackAddr (s.sp + 1)) = .ram ∨ s.kindAt (stackAddr (s.sp + 1)) = .rom) :
    s.pull = (s.peek (stackAddr (s.sp + 1)), s.setSp (s.sp + 1)) :=
  State.memRead_stored (s.setSp (s.sp + 1)) _ h

/-- A word pulled from RAM or ROM, low byte first (R177). -/
theorem State.pullWord_stored
    (h0 : s.kindAt (stackAddr (s.sp + 1)) = .ram ∨ s.kindAt (stackAddr (s.sp + 1)) = .rom)
    (h1 : s.kindAt (stackAddr (s.sp + 2)) = .ram ∨ s.kindAt (stackAddr (s.sp + 2)) = .rom) :
    s.pullWord = (word (s.peek (stackAddr (s.sp + 2))) (s.peek (stackAddr (s.sp + 1))), s.setSp (s.sp + 2)) := by
  have e : s.sp + 2 = s.sp + 1 + 1 := by bv_omega
  rw [e] at h1 ⊢
  have h := State.pull_stored (s.setSp (s.sp + 1)) h1
  simp only [State.pullWord, s.pull_stored h0, h]
  rfl

/-- A return from an exception whose three bytes are RAM or ROM (R178). -/
theorem State.returnFromException_stored
    (h0 : s.kindAt (stackAddr (s.sp + 1)) = .ram ∨ s.kindAt (stackAddr (s.sp + 1)) = .rom)
    (h1 : s.kindAt (stackAddr (s.sp + 2)) = .ram ∨ s.kindAt (stackAddr (s.sp + 2)) = .rom)
    (h2 : s.kindAt (stackAddr (s.sp + 3)) = .ram ∨ s.kindAt (stackAddr (s.sp + 3)) = .rom) :
    s.returnFromException = { s with
      p := setStatus (s.peek (stackAddr (s.sp + 1)))
      sp := s.sp + 3
      pc := word (s.peek (stackAddr (s.sp + 3))) (s.peek (stackAddr (s.sp + 2))) } := by
  have e1 : s.sp + 2 = s.sp + 1 + 1 := by bv_omega
  have e2 : s.sp + 3 = s.sp + 1 + 2 := by bv_omega
  rw [e1] at h1 ⊢
  rw [e2] at h2 ⊢
  have h := State.pullWord_stored ((s.setSp (s.sp + 1)).setP (setStatus (s.peek (stackAddr (s.sp + 1))))) h1 h2
  simp only [State.returnFromException, s.pull_stored h0, h]
  rfl

end Sys2Proof.Machine
end

