-- ==== Sys2Proof/Laws/Families.lean ====
section
/-! SUPPORT. What each shared meaning can do, said once: the fields it leaves alone, the PC it ends at, that it keeps the
canonical form of memory, and where it leaves memory alone. A proof about `exec` cites these and unfolds no meaning. -/

namespace Sys2Proof.Machine

variable (s : State)

/-! ### opLda -/

@[simp] theorem opLda_x (src : Source) : (opLda src s).x = s.x := by
  simp [opLda]
@[simp] theorem opLda_y (src : Source) : (opLda src s).y = s.y := by
  simp [opLda]
@[simp] theorem opLda_sp (src : Source) : (opLda src s).sp = s.sp := by
  simp [opLda]
@[simp] theorem opLda_mem (src : Source) : (opLda src s).mem = s.mem := by
  simp [opLda]
@[simp] theorem opLda_nmiPending (src : Source) : (opLda src s).nmiPending = s.nmiPending := by
  simp [opLda]
@[simp] theorem opLda_irqLate (src : Source) : (opLda src s).irqLate = s.irqLate := by
  simp [opLda]
@[simp] theorem opLda_irqLine (src : Source) : (opLda src s).irqLine = s.irqLine := by
  simp [opLda]
@[simp] theorem opLda_inputs (src : Source) : (opLda src s).inputs = s.inputs := by
  simp [opLda]
@[simp] theorem opLda_memMap (src : Source) : (opLda src s).memMap = s.memMap := by
  simp [opLda]
@[simp] theorem opLda_nmiHeld (src : Source) : (opLda src s).nmiHeld = s.nmiHeld := by
  simp [opLda]
@[simp] theorem opLda_irqHeld (src : Source) : (opLda src s).irqHeld = s.irqHeld := by
  simp [opLda]
@[simp] theorem opLda_brkNmi (src : Source) : (opLda src s).brkNmi = s.brkNmi := by
  simp [opLda]
@[simp] theorem opLda_peek (src : Source) (k : Word) : (opLda src s).peek k = s.peek k := by
  simp [opLda]
@[simp] theorem opLda_kindAt (src : Source) (k : Word) : (opLda src s).kindAt k = s.kindAt k := by
  simp [opLda]

@[simp] theorem opLda_pc (src : Source) : (opLda src s).pc = s.pc + BitVec.ofNat 16 (sourceLength src) := by
  simp [opLda]

/-! ### opLdx -/

@[simp] theorem opLdx_a (src : Source) : (opLdx src s).a = s.a := by
  simp [opLdx]
@[simp] theorem opLdx_y (src : Source) : (opLdx src s).y = s.y := by
  simp [opLdx]
@[simp] theorem opLdx_sp (src : Source) : (opLdx src s).sp = s.sp := by
  simp [opLdx]
@[simp] theorem opLdx_mem (src : Source) : (opLdx src s).mem = s.mem := by
  simp [opLdx]
@[simp] theorem opLdx_nmiPending (src : Source) : (opLdx src s).nmiPending = s.nmiPending := by
  simp [opLdx]
@[simp] theorem opLdx_irqLate (src : Source) : (opLdx src s).irqLate = s.irqLate := by
  simp [opLdx]
@[simp] theorem opLdx_irqLine (src : Source) : (opLdx src s).irqLine = s.irqLine := by
  simp [opLdx]
@[simp] theorem opLdx_inputs (src : Source) : (opLdx src s).inputs = s.inputs := by
  simp [opLdx]
@[simp] theorem opLdx_memMap (src : Source) : (opLdx src s).memMap = s.memMap := by
  simp [opLdx]
@[simp] theorem opLdx_nmiHeld (src : Source) : (opLdx src s).nmiHeld = s.nmiHeld := by
  simp [opLdx]
@[simp] theorem opLdx_irqHeld (src : Source) : (opLdx src s).irqHeld = s.irqHeld := by
  simp [opLdx]
@[simp] theorem opLdx_brkNmi (src : Source) : (opLdx src s).brkNmi = s.brkNmi := by
  simp [opLdx]
@[simp] theorem opLdx_peek (src : Source) (k : Word) : (opLdx src s).peek k = s.peek k := by
  simp [opLdx]
@[simp] theorem opLdx_kindAt (src : Source) (k : Word) : (opLdx src s).kindAt k = s.kindAt k := by
  simp [opLdx]

@[simp] theorem opLdx_pc (src : Source) : (opLdx src s).pc = s.pc + BitVec.ofNat 16 (sourceLength src) := by
  simp [opLdx]

/-! ### opLdy -/

@[simp] theorem opLdy_a (src : Source) : (opLdy src s).a = s.a := by
  simp [opLdy]
@[simp] theorem opLdy_x (src : Source) : (opLdy src s).x = s.x := by
  simp [opLdy]
@[simp] theorem opLdy_sp (src : Source) : (opLdy src s).sp = s.sp := by
  simp [opLdy]
@[simp] theorem opLdy_mem (src : Source) : (opLdy src s).mem = s.mem := by
  simp [opLdy]
@[simp] theorem opLdy_nmiPending (src : Source) : (opLdy src s).nmiPending = s.nmiPending := by
  simp [opLdy]
@[simp] theorem opLdy_irqLate (src : Source) : (opLdy src s).irqLate = s.irqLate := by
  simp [opLdy]
@[simp] theorem opLdy_irqLine (src : Source) : (opLdy src s).irqLine = s.irqLine := by
  simp [opLdy]
@[simp] theorem opLdy_inputs (src : Source) : (opLdy src s).inputs = s.inputs := by
  simp [opLdy]
@[simp] theorem opLdy_memMap (src : Source) : (opLdy src s).memMap = s.memMap := by
  simp [opLdy]
@[simp] theorem opLdy_nmiHeld (src : Source) : (opLdy src s).nmiHeld = s.nmiHeld := by
  simp [opLdy]
@[simp] theorem opLdy_irqHeld (src : Source) : (opLdy src s).irqHeld = s.irqHeld := by
  simp [opLdy]
@[simp] theorem opLdy_brkNmi (src : Source) : (opLdy src s).brkNmi = s.brkNmi := by
  simp [opLdy]
@[simp] theorem opLdy_peek (src : Source) (k : Word) : (opLdy src s).peek k = s.peek k := by
  simp [opLdy]
@[simp] theorem opLdy_kindAt (src : Source) (k : Word) : (opLdy src s).kindAt k = s.kindAt k := by
  simp [opLdy]

@[simp] theorem opLdy_pc (src : Source) : (opLdy src s).pc = s.pc + BitVec.ofNat 16 (sourceLength src) := by
  simp [opLdy]

/-! ### opSta -/

@[simp] theorem opSta_a (m : MemForm) : (opSta m s).a = s.a := by
  simp [opSta]
@[simp] theorem opSta_x (m : MemForm) : (opSta m s).x = s.x := by
  simp [opSta]
@[simp] theorem opSta_y (m : MemForm) : (opSta m s).y = s.y := by
  simp [opSta]
@[simp] theorem opSta_sp (m : MemForm) : (opSta m s).sp = s.sp := by
  simp [opSta]
@[simp] theorem opSta_p (m : MemForm) : (opSta m s).p = s.p := by
  simp [opSta]
@[simp] theorem opSta_nmiPending (m : MemForm) : (opSta m s).nmiPending = s.nmiPending := by
  simp [opSta]
@[simp] theorem opSta_irqLate (m : MemForm) : (opSta m s).irqLate = s.irqLate := by
  simp [opSta]
@[simp] theorem opSta_irqLine (m : MemForm) : (opSta m s).irqLine = s.irqLine := by
  simp [opSta]
@[simp] theorem opSta_inputs (m : MemForm) : (opSta m s).inputs = s.inputs := by
  simp [opSta]
@[simp] theorem opSta_memMap (m : MemForm) : (opSta m s).memMap = s.memMap := by
  simp [opSta]
@[simp] theorem opSta_nmiHeld (m : MemForm) : (opSta m s).nmiHeld = s.nmiHeld := by
  simp [opSta]
@[simp] theorem opSta_irqHeld (m : MemForm) : (opSta m s).irqHeld = s.irqHeld := by
  simp [opSta]
@[simp] theorem opSta_brkNmi (m : MemForm) : (opSta m s).brkNmi = s.brkNmi := by
  simp [opSta]
@[simp] theorem opSta_kindAt (m : MemForm) (k : Word) : (opSta m s).kindAt k = s.kindAt k := by
  simp [opSta]

@[simp] theorem opSta_pc (m : MemForm) : (opSta m s).pc = s.pc + BitVec.ofNat 16 (memLength m) := by
  simp [opSta]

theorem opSta_wf (m : MemForm) (h : s.mem.wf = true) : (opSta m s).mem.wf = true :=
  writeMem_wf _ _ _ (by simpa using h)
theorem opSta_peek_other (m : MemForm) {k : Word}
    (hk : k ≠ (effAddr m (s.advance (memLength m))).1) : (opSta m s).peek k = s.peek k :=
  writeMem_peek_other (s.advance (memLength m)) _ m hk
theorem opSta_peek_notRam (m : MemForm) {k : Word} (hk : s.kindAt k ≠ .ram) :
    (opSta m s).peek k = s.peek k :=
  writeMem_peek_notRam (s.advance (memLength m)) _ m (by simpa using hk)

/-! ### opStx -/

@[simp] theorem opStx_a (m : MemForm) : (opStx m s).a = s.a := by
  simp [opStx]
@[simp] theorem opStx_x (m : MemForm) : (opStx m s).x = s.x := by
  simp [opStx]
@[simp] theorem opStx_y (m : MemForm) : (opStx m s).y = s.y := by
  simp [opStx]
@[simp] theorem opStx_sp (m : MemForm) : (opStx m s).sp = s.sp := by
  simp [opStx]
@[simp] theorem opStx_p (m : MemForm) : (opStx m s).p = s.p := by
  simp [opStx]
@[simp] theorem opStx_nmiPending (m : MemForm) : (opStx m s).nmiPending = s.nmiPending := by
  simp [opStx]
@[simp] theorem opStx_irqLate (m : MemForm) : (opStx m s).irqLate = s.irqLate := by
  simp [opStx]
@[simp] theorem opStx_irqLine (m : MemForm) : (opStx m s).irqLine = s.irqLine := by
  simp [opStx]
@[simp] theorem opStx_inputs (m : MemForm) : (opStx m s).inputs = s.inputs := by
  simp [opStx]
@[simp] theorem opStx_memMap (m : MemForm) : (opStx m s).memMap = s.memMap := by
  simp [opStx]
@[simp] theorem opStx_nmiHeld (m : MemForm) : (opStx m s).nmiHeld = s.nmiHeld := by
  simp [opStx]
@[simp] theorem opStx_irqHeld (m : MemForm) : (opStx m s).irqHeld = s.irqHeld := by
  simp [opStx]
@[simp] theorem opStx_brkNmi (m : MemForm) : (opStx m s).brkNmi = s.brkNmi := by
  simp [opStx]
@[simp] theorem opStx_kindAt (m : MemForm) (k : Word) : (opStx m s).kindAt k = s.kindAt k := by
  simp [opStx]

@[simp] theorem opStx_pc (m : MemForm) : (opStx m s).pc = s.pc + BitVec.ofNat 16 (memLength m) := by
  simp [opStx]

theorem opStx_wf (m : MemForm) (h : s.mem.wf = true) : (opStx m s).mem.wf = true :=
  writeMem_wf _ _ _ (by simpa using h)
theorem opStx_peek_other (m : MemForm) {k : Word}
    (hk : k ≠ (effAddr m (s.advance (memLength m))).1) : (opStx m s).peek k = s.peek k :=
  writeMem_peek_other (s.advance (memLength m)) _ m hk
theorem opStx_peek_notRam (m : MemForm) {k : Word} (hk : s.kindAt k ≠ .ram) :
    (opStx m s).peek k = s.peek k :=
  writeMem_peek_notRam (s.advance (memLength m)) _ m (by simpa using hk)

/-! ### opSty -/

@[simp] theorem opSty_a (m : MemForm) : (opSty m s).a = s.a := by
  simp [opSty]
@[simp] theorem opSty_x (m : MemForm) : (opSty m s).x = s.x := by
  simp [opSty]
@[simp] theorem opSty_y (m : MemForm) : (opSty m s).y = s.y := by
  simp [opSty]
@[simp] theorem opSty_sp (m : MemForm) : (opSty m s).sp = s.sp := by
  simp [opSty]
@[simp] theorem opSty_p (m : MemForm) : (opSty m s).p = s.p := by
  simp [opSty]
@[simp] theorem opSty_nmiPending (m : MemForm) : (opSty m s).nmiPending = s.nmiPending := by
  simp [opSty]
@[simp] theorem opSty_irqLate (m : MemForm) : (opSty m s).irqLate = s.irqLate := by
  simp [opSty]
@[simp] theorem opSty_irqLine (m : MemForm) : (opSty m s).irqLine = s.irqLine := by
  simp [opSty]
@[simp] theorem opSty_inputs (m : MemForm) : (opSty m s).inputs = s.inputs := by
  simp [opSty]
@[simp] theorem opSty_memMap (m : MemForm) : (opSty m s).memMap = s.memMap := by
  simp [opSty]
@[simp] theorem opSty_nmiHeld (m : MemForm) : (opSty m s).nmiHeld = s.nmiHeld := by
  simp [opSty]
@[simp] theorem opSty_irqHeld (m : MemForm) : (opSty m s).irqHeld = s.irqHeld := by
  simp [opSty]
@[simp] theorem opSty_brkNmi (m : MemForm) : (opSty m s).brkNmi = s.brkNmi := by
  simp [opSty]
@[simp] theorem opSty_kindAt (m : MemForm) (k : Word) : (opSty m s).kindAt k = s.kindAt k := by
  simp [opSty]

@[simp] theorem opSty_pc (m : MemForm) : (opSty m s).pc = s.pc + BitVec.ofNat 16 (memLength m) := by
  simp [opSty]

theorem opSty_wf (m : MemForm) (h : s.mem.wf = true) : (opSty m s).mem.wf = true :=
  writeMem_wf _ _ _ (by simpa using h)
theorem opSty_peek_other (m : MemForm) {k : Word}
    (hk : k ≠ (effAddr m (s.advance (memLength m))).1) : (opSty m s).peek k = s.peek k :=
  writeMem_peek_other (s.advance (memLength m)) _ m hk
theorem opSty_peek_notRam (m : MemForm) {k : Word} (hk : s.kindAt k ≠ .ram) :
    (opSty m s).peek k = s.peek k :=
  writeMem_peek_notRam (s.advance (memLength m)) _ m (by simpa using hk)

/-! ### opLogic, opBit, opCompare -/

@[simp] theorem opLogic_x (f : Byte → Byte → Byte) (src : Source) : (opLogic f src s).x = s.x := by
  simp [opLogic]
@[simp] theorem opLogic_y (f : Byte → Byte → Byte) (src : Source) : (opLogic f src s).y = s.y := by
  simp [opLogic]
@[simp] theorem opLogic_sp (f : Byte → Byte → Byte) (src : Source) : (opLogic f src s).sp = s.sp := by
  simp [opLogic]
@[simp] theorem opLogic_mem (f : Byte → Byte → Byte) (src : Source) : (opLogic f src s).mem = s.mem := by
  simp [opLogic]
@[simp] theorem opLogic_nmiPending (f : Byte → Byte → Byte) (src : Source) : (opLogic f src s).nmiPending = s.nmiPending := by
  simp [opLogic]
@[simp] theorem opLogic_irqLate (f : Byte → Byte → Byte) (src : Source) : (opLogic f src s).irqLate = s.irqLate := by
  simp [opLogic]
@[simp] theorem opLogic_irqLine (f : Byte → Byte → Byte) (src : Source) : (opLogic f src s).irqLine = s.irqLine := by
  simp [opLogic]
@[simp] theorem opLogic_inputs (f : Byte → Byte → Byte) (src : Source) : (opLogic f src s).inputs = s.inputs := by
  simp [opLogic]
@[simp] theorem opLogic_memMap (f : Byte → Byte → Byte) (src : Source) : (opLogic f src s).memMap = s.memMap := by
  simp [opLogic]
@[simp] theorem opLogic_nmiHeld (f : Byte → Byte → Byte) (src : Source) : (opLogic f src s).nmiHeld = s.nmiHeld := by
  simp [opLogic]
@[simp] theorem opLogic_irqHeld (f : Byte → Byte → Byte) (src : Source) : (opLogic f src s).irqHeld = s.irqHeld := by
  simp [opLogic]
@[simp] theorem opLogic_brkNmi (f : Byte → Byte → Byte) (src : Source) : (opLogic f src s).brkNmi = s.brkNmi := by
  simp [opLogic]
@[simp] theorem opLogic_peek (f : Byte → Byte → Byte) (src : Source) (k : Word) : (opLogic f src s).peek k = s.peek k := by
  simp [opLogic]
@[simp] theorem opLogic_kindAt (f : Byte → Byte → Byte) (src : Source) (k : Word) : (opLogic f src s).kindAt k = s.kindAt k := by
  simp [opLogic]

@[simp] theorem opLogic_pc (f : Byte → Byte → Byte) (src : Source) : (opLogic f src s).pc = s.pc + BitVec.ofNat 16 (sourceLength src) := by
  simp [opLogic]

@[simp] theorem opBit_a (m : MemForm) : (opBit m s).a = s.a := by
  simp [opBit]
@[simp] theorem opBit_x (m : MemForm) : (opBit m s).x = s.x := by
  simp [opBit]
@[simp] theorem opBit_y (m : MemForm) : (opBit m s).y = s.y := by
  simp [opBit]
@[simp] theorem opBit_sp (m : MemForm) : (opBit m s).sp = s.sp := by
  simp [opBit]
@[simp] theorem opBit_mem (m : MemForm) : (opBit m s).mem = s.mem := by
  simp [opBit]
@[simp] theorem opBit_nmiPending (m : MemForm) : (opBit m s).nmiPending = s.nmiPending := by
  simp [opBit]
@[simp] theorem opBit_irqLate (m : MemForm) : (opBit m s).irqLate = s.irqLate := by
  simp [opBit]
@[simp] theorem opBit_irqLine (m : MemForm) : (opBit m s).irqLine = s.irqLine := by
  simp [opBit]
@[simp] theorem opBit_inputs (m : MemForm) : (opBit m s).inputs = s.inputs := by
  simp [opBit]
@[simp] theorem opBit_memMap (m : MemForm) : (opBit m s).memMap = s.memMap := by
  simp [opBit]
@[simp] theorem opBit_nmiHeld (m : MemForm) : (opBit m s).nmiHeld = s.nmiHeld := by
  simp [opBit]
@[simp] theorem opBit_irqHeld (m : MemForm) : (opBit m s).irqHeld = s.irqHeld := by
  simp [opBit]
@[simp] theorem opBit_brkNmi (m : MemForm) : (opBit m s).brkNmi = s.brkNmi := by
  simp [opBit]
@[simp] theorem opBit_peek (m : MemForm) (k : Word) : (opBit m s).peek k = s.peek k := by
  simp [opBit]
@[simp] theorem opBit_kindAt (m : MemForm) (k : Word) : (opBit m s).kindAt k = s.kindAt k := by
  simp [opBit]

@[simp] theorem opBit_pc (m : MemForm) : (opBit m s).pc = s.pc + BitVec.ofNat 16 (memLength m) := by
  simp [opBit]

@[simp] theorem opCompare_a (reg : Byte) (src : Source) : (opCompare reg src s).a = s.a := by
  simp [opCompare]
@[simp] theorem opCompare_x (reg : Byte) (src : Source) : (opCompare reg src s).x = s.x := by
  simp [opCompare]
@[simp] theorem opCompare_y (reg : Byte) (src : Source) : (opCompare reg src s).y = s.y := by
  simp [opCompare]
@[simp] theorem opCompare_sp (reg : Byte) (src : Source) : (opCompare reg src s).sp = s.sp := by
  simp [opCompare]
@[simp] theorem opCompare_mem (reg : Byte) (src : Source) : (opCompare reg src s).mem = s.mem := by
  simp [opCompare]
@[simp] theorem opCompare_nmiPending (reg : Byte) (src : Source) : (opCompare reg src s).nmiPending = s.nmiPending := by
  simp [opCompare]
@[simp] theorem opCompare_irqLate (reg : Byte) (src : Source) : (opCompare reg src s).irqLate = s.irqLate := by
  simp [opCompare]
@[simp] theorem opCompare_irqLine (reg : Byte) (src : Source) : (opCompare reg src s).irqLine = s.irqLine := by
  simp [opCompare]
@[simp] theorem opCompare_inputs (reg : Byte) (src : Source) : (opCompare reg src s).inputs = s.inputs := by
  simp [opCompare]
@[simp] theorem opCompare_memMap (reg : Byte) (src : Source) : (opCompare reg src s).memMap = s.memMap := by
  simp [opCompare]
@[simp] theorem opCompare_nmiHeld (reg : Byte) (src : Source) : (opCompare reg src s).nmiHeld = s.nmiHeld := by
  simp [opCompare]
@[simp] theorem opCompare_irqHeld (reg : Byte) (src : Source) : (opCompare reg src s).irqHeld = s.irqHeld := by
  simp [opCompare]
@[simp] theorem opCompare_brkNmi (reg : Byte) (src : Source) : (opCompare reg src s).brkNmi = s.brkNmi := by
  simp [opCompare]
@[simp] theorem opCompare_peek (reg : Byte) (src : Source) (k : Word) : (opCompare reg src s).peek k = s.peek k := by
  simp [opCompare]
@[simp] theorem opCompare_kindAt (reg : Byte) (src : Source) (k : Word) : (opCompare reg src s).kindAt k = s.kindAt k := by
  simp [opCompare]

@[simp] theorem opCompare_pc (reg : Byte) (src : Source) : (opCompare reg src s).pc = s.pc + BitVec.ofNat 16 (sourceLength src) := by
  simp [opCompare]

/-! ### opAdc -/

@[simp] theorem opAdc_x (src : Source) : (opAdc src s).x = s.x := by
  simp only [opAdc]; split <;> simp [State.setDecimal, State.addBinary]
@[simp] theorem opAdc_y (src : Source) : (opAdc src s).y = s.y := by
  simp only [opAdc]; split <;> simp [State.setDecimal, State.addBinary]
@[simp] theorem opAdc_sp (src : Source) : (opAdc src s).sp = s.sp := by
  simp only [opAdc]; split <;> simp [State.setDecimal, State.addBinary]
@[simp] theorem opAdc_mem (src : Source) : (opAdc src s).mem = s.mem := by
  simp only [opAdc]; split <;> simp [State.setDecimal, State.addBinary]
@[simp] theorem opAdc_nmiPending (src : Source) : (opAdc src s).nmiPending = s.nmiPending := by
  simp only [opAdc]; split <;> simp [State.setDecimal, State.addBinary]
@[simp] theorem opAdc_irqLate (src : Source) : (opAdc src s).irqLate = s.irqLate := by
  simp only [opAdc]; split <;> simp [State.setDecimal, State.addBinary]
@[simp] theorem opAdc_irqLine (src : Source) : (opAdc src s).irqLine = s.irqLine := by
  simp only [opAdc]; split <;> simp [State.setDecimal, State.addBinary]
@[simp] theorem opAdc_inputs (src : Source) : (opAdc src s).inputs = s.inputs := by
  simp only [opAdc]; split <;> simp [State.setDecimal, State.addBinary]
@[simp] theorem opAdc_memMap (src : Source) : (opAdc src s).memMap = s.memMap := by
  simp only [opAdc]; split <;> simp [State.setDecimal, State.addBinary]
@[simp] theorem opAdc_nmiHeld (src : Source) : (opAdc src s).nmiHeld = s.nmiHeld := by
  simp only [opAdc]; split <;> simp [State.setDecimal, State.addBinary]
@[simp] theorem opAdc_irqHeld (src : Source) : (opAdc src s).irqHeld = s.irqHeld := by
  simp only [opAdc]; split <;> simp [State.setDecimal, State.addBinary]
@[simp] theorem opAdc_brkNmi (src : Source) : (opAdc src s).brkNmi = s.brkNmi := by
  simp only [opAdc]; split <;> simp [State.setDecimal, State.addBinary]
@[simp] theorem opAdc_peek (src : Source) (k : Word) : (opAdc src s).peek k = s.peek k := by
  simp only [opAdc]; split <;> simp [State.setDecimal, State.addBinary]
@[simp] theorem opAdc_kindAt (src : Source) (k : Word) : (opAdc src s).kindAt k = s.kindAt k := by
  simp only [opAdc]; split <;> simp [State.setDecimal, State.addBinary]

@[simp] theorem opAdc_pc (src : Source) : (opAdc src s).pc = s.pc + BitVec.ofNat 16 (sourceLength src) := by
  simp only [opAdc]; split <;> simp [State.setDecimal, State.addBinary]

/-! ### opSbc -/

@[simp] theorem opSbc_x (src : Source) : (opSbc src s).x = s.x := by
  simp only [opSbc]; split <;> simp [State.setDecimal, State.addBinary]
@[simp] theorem opSbc_y (src : Source) : (opSbc src s).y = s.y := by
  simp only [opSbc]; split <;> simp [State.setDecimal, State.addBinary]
@[simp] theorem opSbc_sp (src : Source) : (opSbc src s).sp = s.sp := by
  simp only [opSbc]; split <;> simp [State.setDecimal, State.addBinary]
@[simp] theorem opSbc_mem (src : Source) : (opSbc src s).mem = s.mem := by
  simp only [opSbc]; split <;> simp [State.setDecimal, State.addBinary]
@[simp] theorem opSbc_nmiPending (src : Source) : (opSbc src s).nmiPending = s.nmiPending := by
  simp only [opSbc]; split <;> simp [State.setDecimal, State.addBinary]
@[simp] theorem opSbc_irqLate (src : Source) : (opSbc src s).irqLate = s.irqLate := by
  simp only [opSbc]; split <;> simp [State.setDecimal, State.addBinary]
@[simp] theorem opSbc_irqLine (src : Source) : (opSbc src s).irqLine = s.irqLine := by
  simp only [opSbc]; split <;> simp [State.setDecimal, State.addBinary]
@[simp] theorem opSbc_inputs (src : Source) : (opSbc src s).inputs = s.inputs := by
  simp only [opSbc]; split <;> simp [State.setDecimal, State.addBinary]
@[simp] theorem opSbc_memMap (src : Source) : (opSbc src s).memMap = s.memMap := by
  simp only [opSbc]; split <;> simp [State.setDecimal, State.addBinary]
@[simp] theorem opSbc_nmiHeld (src : Source) : (opSbc src s).nmiHeld = s.nmiHeld := by
  simp only [opSbc]; split <;> simp [State.setDecimal, State.addBinary]
@[simp] theorem opSbc_irqHeld (src : Source) : (opSbc src s).irqHeld = s.irqHeld := by
  simp only [opSbc]; split <;> simp [State.setDecimal, State.addBinary]
@[simp] theorem opSbc_brkNmi (src : Source) : (opSbc src s).brkNmi = s.brkNmi := by
  simp only [opSbc]; split <;> simp [State.setDecimal, State.addBinary]
@[simp] theorem opSbc_peek (src : Source) (k : Word) : (opSbc src s).peek k = s.peek k := by
  simp only [opSbc]; split <;> simp [State.setDecimal, State.addBinary]
@[simp] theorem opSbc_kindAt (src : Source) (k : Word) : (opSbc src s).kindAt k = s.kindAt k := by
  simp only [opSbc]; split <;> simp [State.setDecimal, State.addBinary]

@[simp] theorem opSbc_pc (src : Source) : (opSbc src s).pc = s.pc + BitVec.ofNat 16 (sourceLength src) := by
  simp only [opSbc]; split <;> simp [State.setDecimal, State.addBinary]

/-! ### opShift, opIncDec -/

@[simp] theorem opShift_x (f : Byte → Byte) (out : Byte → Bool) (pl : Place) : (opShift f out pl s).x = s.x := by
  simp [opShift]
@[simp] theorem opShift_y (f : Byte → Byte) (out : Byte → Bool) (pl : Place) : (opShift f out pl s).y = s.y := by
  simp [opShift]
@[simp] theorem opShift_sp (f : Byte → Byte) (out : Byte → Bool) (pl : Place) : (opShift f out pl s).sp = s.sp := by
  simp [opShift]
@[simp] theorem opShift_nmiPending (f : Byte → Byte) (out : Byte → Bool) (pl : Place) : (opShift f out pl s).nmiPending = s.nmiPending := by
  simp [opShift]
@[simp] theorem opShift_irqLate (f : Byte → Byte) (out : Byte → Bool) (pl : Place) : (opShift f out pl s).irqLate = s.irqLate := by
  simp [opShift]
@[simp] theorem opShift_irqLine (f : Byte → Byte) (out : Byte → Bool) (pl : Place) : (opShift f out pl s).irqLine = s.irqLine := by
  simp [opShift]
@[simp] theorem opShift_inputs (f : Byte → Byte) (out : Byte → Bool) (pl : Place) : (opShift f out pl s).inputs = s.inputs := by
  simp [opShift]
@[simp] theorem opShift_memMap (f : Byte → Byte) (out : Byte → Bool) (pl : Place) : (opShift f out pl s).memMap = s.memMap := by
  simp [opShift]
@[simp] theorem opShift_nmiHeld (f : Byte → Byte) (out : Byte → Bool) (pl : Place) : (opShift f out pl s).nmiHeld = s.nmiHeld := by
  simp [opShift]
@[simp] theorem opShift_irqHeld (f : Byte → Byte) (out : Byte → Bool) (pl : Place) : (opShift f out pl s).irqHeld = s.irqHeld := by
  simp [opShift]
@[simp] theorem opShift_brkNmi (f : Byte → Byte) (out : Byte → Bool) (pl : Place) : (opShift f out pl s).brkNmi = s.brkNmi := by
  simp [opShift]
@[simp] theorem opShift_kindAt (f : Byte → Byte) (out : Byte → Bool) (pl : Place) (k : Word) : (opShift f out pl s).kindAt k = s.kindAt k := by
  simp [opShift]

@[simp] theorem opShift_pc (f : Byte → Byte) (out : Byte → Bool) (pl : Place) : (opShift f out pl s).pc = s.pc + BitVec.ofNat 16 (placeLength pl) := by
  simp [opShift]

/-- The memory form leaves A alone (R166). -/
@[simp] theorem opShift_a_mem (f : Byte → Byte) (out : Byte → Bool) (m : MemForm) :
    (opShift f out (.mem m) s).a = s.a := by
  simp [opShift, modifyPlace]

/-- The ACCUM. form leaves memory alone (R120, R166). -/
@[simp] theorem opShift_mem_acc (f : Byte → Byte) (out : Byte → Bool) : (opShift f out .acc s).mem = s.mem := by
  simp [opShift, modifyPlace, modifyAcc]

@[simp] theorem opShift_peek_acc (f : Byte → Byte) (out : Byte → Bool) (k : Word) :
    (opShift f out .acc s).peek k = s.peek k := by
  simp [opShift, modifyPlace, modifyAcc]

theorem opShift_wf (f : Byte → Byte) (out : Byte → Bool) (pl : Place) (h : s.mem.wf = true) : (opShift f out pl s).mem.wf = true := by
  simpa [opShift] using modifyPlace_wf (s.advance (placeLength pl)) pl f (by simpa using h)

theorem opShift_peek_other (f : Byte → Byte) (out : Byte → Bool) (m : MemForm) {k : Word}
    (hk : k ≠ (effAddr m (s.advance (memLength m))).1) : (opShift f out (.mem m) s).peek k = s.peek k := by
  simpa [opShift, modifyPlace, placeLength] using modifyMem_peek_other (s.advance (memLength m)) m f hk

theorem opShift_peek_notRam (f : Byte → Byte) (out : Byte → Bool) (pl : Place) {k : Word} (hk : s.kindAt k ≠ .ram) :
    (opShift f out pl s).peek k = s.peek k := by
  simpa [opShift] using modifyPlace_peek_notRam (s.advance (placeLength pl)) pl f (by simpa using hk)

@[simp] theorem opIncDec_a (f : Byte → Byte) (m : MemForm) : (opIncDec f m s).a = s.a := by
  simp [opIncDec]
@[simp] theorem opIncDec_x (f : Byte → Byte) (m : MemForm) : (opIncDec f m s).x = s.x := by
  simp [opIncDec]
@[simp] theorem opIncDec_y (f : Byte → Byte) (m : MemForm) : (opIncDec f m s).y = s.y := by
  simp [opIncDec]
@[simp] theorem opIncDec_sp (f : Byte → Byte) (m : MemForm) : (opIncDec f m s).sp = s.sp := by
  simp [opIncDec]
@[simp] theorem opIncDec_nmiPending (f : Byte → Byte) (m : MemForm) : (opIncDec f m s).nmiPending = s.nmiPending := by
  simp [opIncDec]
@[simp] theorem opIncDec_irqLate (f : Byte → Byte) (m : MemForm) : (opIncDec f m s).irqLate = s.irqLate := by
  simp [opIncDec]
@[simp] theorem opIncDec_irqLine (f : Byte → Byte) (m : MemForm) : (opIncDec f m s).irqLine = s.irqLine := by
  simp [opIncDec]
@[simp] theorem opIncDec_inputs (f : Byte → Byte) (m : MemForm) : (opIncDec f m s).inputs = s.inputs := by
  simp [opIncDec]
@[simp] theorem opIncDec_memMap (f : Byte → Byte) (m : MemForm) : (opIncDec f m s).memMap = s.memMap := by
  simp [opIncDec]
@[simp] theorem opIncDec_nmiHeld (f : Byte → Byte) (m : MemForm) : (opIncDec f m s).nmiHeld = s.nmiHeld := by
  simp [opIncDec]
@[simp] theorem opIncDec_irqHeld (f : Byte → Byte) (m : MemForm) : (opIncDec f m s).irqHeld = s.irqHeld := by
  simp [opIncDec]
@[simp] theorem opIncDec_brkNmi (f : Byte → Byte) (m : MemForm) : (opIncDec f m s).brkNmi = s.brkNmi := by
  simp [opIncDec]
@[simp] theorem opIncDec_kindAt (f : Byte → Byte) (m : MemForm) (k : Word) : (opIncDec f m s).kindAt k = s.kindAt k := by
  simp [opIncDec]

@[simp] theorem opIncDec_pc (f : Byte → Byte) (m : MemForm) : (opIncDec f m s).pc = s.pc + BitVec.ofNat 16 (memLength m) := by
  simp [opIncDec]

theorem opIncDec_wf (f : Byte → Byte) (m : MemForm) (h : s.mem.wf = true) : (opIncDec f m s).mem.wf = true := by
  simpa [opIncDec] using modifyMem_wf (s.advance (memLength m)) m f (by simpa using h)

theorem opIncDec_peek_other (f : Byte → Byte) (m : MemForm) {k : Word}
    (hk : k ≠ (effAddr m (s.advance (memLength m))).1) : (opIncDec f m s).peek k = s.peek k := by
  simpa [opIncDec] using modifyMem_peek_other (s.advance (memLength m)) m f hk

theorem opIncDec_peek_notRam (f : Byte → Byte) (m : MemForm) {k : Word} (hk : s.kindAt k ≠ .ram) :
    (opIncDec f m s).peek k = s.peek k := by
  simpa [opIncDec, modifyPlace] using
    modifyPlace_peek_notRam (s.advance (memLength m)) (.mem m) f (by simpa using hk)

/-! ### opBranch, opJsr, the pushes -/

@[simp] theorem opBranch_a (cond : Bool) (disp : Byte) : (opBranch cond disp s).a = s.a := by
  cases cond <;> simp [opBranch]
@[simp] theorem opBranch_x (cond : Bool) (disp : Byte) : (opBranch cond disp s).x = s.x := by
  cases cond <;> simp [opBranch]
@[simp] theorem opBranch_y (cond : Bool) (disp : Byte) : (opBranch cond disp s).y = s.y := by
  cases cond <;> simp [opBranch]
@[simp] theorem opBranch_sp (cond : Bool) (disp : Byte) : (opBranch cond disp s).sp = s.sp := by
  cases cond <;> simp [opBranch]
@[simp] theorem opBranch_p (cond : Bool) (disp : Byte) : (opBranch cond disp s).p = s.p := by
  cases cond <;> simp [opBranch]
@[simp] theorem opBranch_mem (cond : Bool) (disp : Byte) : (opBranch cond disp s).mem = s.mem := by
  cases cond <;> simp [opBranch]
@[simp] theorem opBranch_nmiPending (cond : Bool) (disp : Byte) : (opBranch cond disp s).nmiPending = s.nmiPending := by
  cases cond <;> simp [opBranch]
@[simp] theorem opBranch_irqLate (cond : Bool) (disp : Byte) : (opBranch cond disp s).irqLate = s.irqLate := by
  cases cond <;> simp [opBranch]
@[simp] theorem opBranch_irqLine (cond : Bool) (disp : Byte) : (opBranch cond disp s).irqLine = s.irqLine := by
  cases cond <;> simp [opBranch]
@[simp] theorem opBranch_inputs (cond : Bool) (disp : Byte) : (opBranch cond disp s).inputs = s.inputs := by
  cases cond <;> simp [opBranch]
@[simp] theorem opBranch_memMap (cond : Bool) (disp : Byte) : (opBranch cond disp s).memMap = s.memMap := by
  cases cond <;> simp [opBranch]
@[simp] theorem opBranch_nmiHeld (cond : Bool) (disp : Byte) : (opBranch cond disp s).nmiHeld = s.nmiHeld := by
  cases cond <;> simp [opBranch]
@[simp] theorem opBranch_irqHeld (cond : Bool) (disp : Byte) : (opBranch cond disp s).irqHeld = s.irqHeld := by
  cases cond <;> simp [opBranch]
@[simp] theorem opBranch_brkNmi (cond : Bool) (disp : Byte) : (opBranch cond disp s).brkNmi = s.brkNmi := by
  cases cond <;> simp [opBranch]
@[simp] theorem opBranch_peek (cond : Bool) (disp : Byte) (k : Word) : (opBranch cond disp s).peek k = s.peek k := by
  cases cond <;> simp [opBranch]
@[simp] theorem opBranch_kindAt (cond : Bool) (disp : Byte) (k : Word) : (opBranch cond disp s).kindAt k = s.kindAt k := by
  cases cond <;> simp [opBranch]

@[simp] theorem opBranch_pc (cond : Bool) (disp : Byte) : (opBranch cond disp s).pc = s.pc + 2 + (if cond then sext disp else 0) := by
  cases cond <;> simp [opBranch]

@[simp] theorem opJsr_a (target : Word) : (opJsr target s).a = s.a := by
  simp [opJsr]
@[simp] theorem opJsr_x (target : Word) : (opJsr target s).x = s.x := by
  simp [opJsr]
@[simp] theorem opJsr_y (target : Word) : (opJsr target s).y = s.y := by
  simp [opJsr]
@[simp] theorem opJsr_p (target : Word) : (opJsr target s).p = s.p := by
  simp [opJsr]
@[simp] theorem opJsr_nmiPending (target : Word) : (opJsr target s).nmiPending = s.nmiPending := by
  simp [opJsr]
@[simp] theorem opJsr_irqLate (target : Word) : (opJsr target s).irqLate = s.irqLate := by
  simp [opJsr]
@[simp] theorem opJsr_irqLine (target : Word) : (opJsr target s).irqLine = s.irqLine := by
  simp [opJsr]
@[simp] theorem opJsr_inputs (target : Word) : (opJsr target s).inputs = s.inputs := by
  simp [opJsr]
@[simp] theorem opJsr_memMap (target : Word) : (opJsr target s).memMap = s.memMap := by
  simp [opJsr]
@[simp] theorem opJsr_nmiHeld (target : Word) : (opJsr target s).nmiHeld = s.nmiHeld := by
  simp [opJsr]
@[simp] theorem opJsr_irqHeld (target : Word) : (opJsr target s).irqHeld = s.irqHeld := by
  simp [opJsr]
@[simp] theorem opJsr_brkNmi (target : Word) : (opJsr target s).brkNmi = s.brkNmi := by
  simp [opJsr]
@[simp] theorem opJsr_kindAt (target : Word) (k : Word) : (opJsr target s).kindAt k = s.kindAt k := by
  simp [opJsr]

@[simp] theorem opJsr_pc (target : Word) : (opJsr target s).pc = target := by
  simp [opJsr]

@[simp] theorem opJsr_sp (target : Word) : (opJsr target s).sp = s.sp - 2 := by
  simp only [opJsr, State.setPc_sp, State.pushWord_sp, State.advance_sp]

theorem opJsr_wf (target : Word) (h : s.mem.wf = true) : (opJsr target s).mem.wf = true := by
  simpa [opJsr] using State.pushWord_wf (s.advance 3) ((s.advance 3).pc - 1) (by simpa using h)

theorem opJsr_peek_other (target : Word) {k : Word} (h0 : k ≠ stackAddr s.sp)
    (h1 : k ≠ stackAddr (s.sp - 1)) : (opJsr target s).peek k = s.peek k :=
  State.pushWord_peek_other (s.advance 3) _ h0 h1

theorem opJsr_peek_notRam (target : Word) {k : Word} (hk : s.kindAt k ≠ .ram) :
    (opJsr target s).peek k = s.peek k :=
  State.pushWord_peek_notRam (s.advance 3) _ hk

/-- What JSR leaves on a RAM stack: the address of its third byte, high byte first (R172). -/
theorem opJsr_peek (target : Word) (h0 : s.kindAt (stackAddr s.sp) = .ram)
    (h1 : s.kindAt (stackAddr (s.sp - 1)) = .ram) :
    (opJsr target s).peek (stackAddr s.sp) = hi (s.pc + 2) ∧
    (opJsr target s).peek (stackAddr (s.sp - 1)) = lo (s.pc + 2) := by
  have e : s.pc + 2 = (s.advance 3).pc - 1 := by simp only [State.advance_pc]; bv_omega
  rw [e]
  exact State.pushWord_peek (s.advance 3) _ h0 h1

/-- What JSR does when it is not refused (R172). -/
theorem execJsr_next (target : Word) (h : jsrHitsOperand (s.pc + 2) s.sp = false) :
    execJsr target s = .next (opJsr target s) := by
  simp only [execJsr, h, Bool.false_eq_true, if_false]

/-- When JSR is refused, in the terms of R172. -/
theorem jsrHitsOperand_iff (third : Word) (sp : Byte) :
    jsrHitsOperand third sp = true ↔ third = stackAddr sp ∨ third = stackAddr (sp - 1) := by
  simp [jsrHitsOperand]

end Sys2Proof.Machine
end

