-- ==== Sys2Proof/Laws/PerInstr.lean ====
section
/-! SUPPORT. The family EncodingLength, one lemma for each instruction: its mode is one R125 gives its mnemonic, and the
grid of R84, the encoder and R82 agree on its length. -/

namespace Sys2Proof.Laws.EncodingLength

/-- The instruction is well formed (R125), and its length is the same by the format the grid gives its opcode (R81, R84),
by its encoding (R80) and by its mode (R82). -/
def Statement (i : Instr) : Prop :=
  i.wellFormed = true ∧ (formOf i.opcode).map Form.length = some i.operand.mode.length ∧
    (encode i).length = i.operand.mode.length

theorem ldaImm (v : Byte) : Statement (.ldaImm v) := ⟨rfl, rfl, rfl⟩
theorem ldaZp (v : Byte) : Statement (.ldaZp v) := ⟨rfl, rfl, rfl⟩
theorem ldaZpx (v : Byte) : Statement (.ldaZpx v) := ⟨rfl, rfl, rfl⟩
theorem ldaAbs (v : Word) : Statement (.ldaAbs v) := ⟨rfl, rfl, rfl⟩
theorem ldaAbsx (v : Word) : Statement (.ldaAbsx v) := ⟨rfl, rfl, rfl⟩
theorem ldaAbsy (v : Word) : Statement (.ldaAbsy v) := ⟨rfl, rfl, rfl⟩
theorem ldaIndx (v : Byte) : Statement (.ldaIndx v) := ⟨rfl, rfl, rfl⟩
theorem ldaIndy (v : Byte) : Statement (.ldaIndy v) := ⟨rfl, rfl, rfl⟩
theorem staZp (v : Byte) : Statement (.staZp v) := ⟨rfl, rfl, rfl⟩
theorem staZpx (v : Byte) : Statement (.staZpx v) := ⟨rfl, rfl, rfl⟩
theorem staAbs (v : Word) : Statement (.staAbs v) := ⟨rfl, rfl, rfl⟩
theorem staAbsx (v : Word) : Statement (.staAbsx v) := ⟨rfl, rfl, rfl⟩
theorem staAbsy (v : Word) : Statement (.staAbsy v) := ⟨rfl, rfl, rfl⟩
theorem staIndx (v : Byte) : Statement (.staIndx v) := ⟨rfl, rfl, rfl⟩
theorem staIndy (v : Byte) : Statement (.staIndy v) := ⟨rfl, rfl, rfl⟩
theorem ldxImm (v : Byte) : Statement (.ldxImm v) := ⟨rfl, rfl, rfl⟩
theorem ldxZp (v : Byte) : Statement (.ldxZp v) := ⟨rfl, rfl, rfl⟩
theorem ldxZpy (v : Byte) : Statement (.ldxZpy v) := ⟨rfl, rfl, rfl⟩
theorem ldxAbs (v : Word) : Statement (.ldxAbs v) := ⟨rfl, rfl, rfl⟩
theorem ldxAbsy (v : Word) : Statement (.ldxAbsy v) := ⟨rfl, rfl, rfl⟩
theorem stxZp (v : Byte) : Statement (.stxZp v) := ⟨rfl, rfl, rfl⟩
theorem stxZpy (v : Byte) : Statement (.stxZpy v) := ⟨rfl, rfl, rfl⟩
theorem stxAbs (v : Word) : Statement (.stxAbs v) := ⟨rfl, rfl, rfl⟩
theorem ldyImm (v : Byte) : Statement (.ldyImm v) := ⟨rfl, rfl, rfl⟩
theorem ldyZp (v : Byte) : Statement (.ldyZp v) := ⟨rfl, rfl, rfl⟩
theorem ldyZpx (v : Byte) : Statement (.ldyZpx v) := ⟨rfl, rfl, rfl⟩
theorem ldyAbs (v : Word) : Statement (.ldyAbs v) := ⟨rfl, rfl, rfl⟩
theorem ldyAbsx (v : Word) : Statement (.ldyAbsx v) := ⟨rfl, rfl, rfl⟩
theorem styZp (v : Byte) : Statement (.styZp v) := ⟨rfl, rfl, rfl⟩
theorem styZpx (v : Byte) : Statement (.styZpx v) := ⟨rfl, rfl, rfl⟩
theorem styAbs (v : Word) : Statement (.styAbs v) := ⟨rfl, rfl, rfl⟩
theorem andImm (v : Byte) : Statement (.andImm v) := ⟨rfl, rfl, rfl⟩
theorem andZp (v : Byte) : Statement (.andZp v) := ⟨rfl, rfl, rfl⟩
theorem andZpx (v : Byte) : Statement (.andZpx v) := ⟨rfl, rfl, rfl⟩
theorem andAbs (v : Word) : Statement (.andAbs v) := ⟨rfl, rfl, rfl⟩
theorem andAbsx (v : Word) : Statement (.andAbsx v) := ⟨rfl, rfl, rfl⟩
theorem andAbsy (v : Word) : Statement (.andAbsy v) := ⟨rfl, rfl, rfl⟩
theorem andIndx (v : Byte) : Statement (.andIndx v) := ⟨rfl, rfl, rfl⟩
theorem andIndy (v : Byte) : Statement (.andIndy v) := ⟨rfl, rfl, rfl⟩
theorem oraImm (v : Byte) : Statement (.oraImm v) := ⟨rfl, rfl, rfl⟩
theorem oraZp (v : Byte) : Statement (.oraZp v) := ⟨rfl, rfl, rfl⟩
theorem oraZpx (v : Byte) : Statement (.oraZpx v) := ⟨rfl, rfl, rfl⟩
theorem oraAbs (v : Word) : Statement (.oraAbs v) := ⟨rfl, rfl, rfl⟩
theorem oraAbsx (v : Word) : Statement (.oraAbsx v) := ⟨rfl, rfl, rfl⟩
theorem oraAbsy (v : Word) : Statement (.oraAbsy v) := ⟨rfl, rfl, rfl⟩
theorem oraIndx (v : Byte) : Statement (.oraIndx v) := ⟨rfl, rfl, rfl⟩
theorem oraIndy (v : Byte) : Statement (.oraIndy v) := ⟨rfl, rfl, rfl⟩
theorem eorImm (v : Byte) : Statement (.eorImm v) := ⟨rfl, rfl, rfl⟩
theorem eorZp (v : Byte) : Statement (.eorZp v) := ⟨rfl, rfl, rfl⟩
theorem eorZpx (v : Byte) : Statement (.eorZpx v) := ⟨rfl, rfl, rfl⟩
theorem eorAbs (v : Word) : Statement (.eorAbs v) := ⟨rfl, rfl, rfl⟩
theorem eorAbsx (v : Word) : Statement (.eorAbsx v) := ⟨rfl, rfl, rfl⟩
theorem eorAbsy (v : Word) : Statement (.eorAbsy v) := ⟨rfl, rfl, rfl⟩
theorem eorIndx (v : Byte) : Statement (.eorIndx v) := ⟨rfl, rfl, rfl⟩
theorem eorIndy (v : Byte) : Statement (.eorIndy v) := ⟨rfl, rfl, rfl⟩
theorem bitZp (v : Byte) : Statement (.bitZp v) := ⟨rfl, rfl, rfl⟩
theorem bitAbs (v : Word) : Statement (.bitAbs v) := ⟨rfl, rfl, rfl⟩
theorem cmpImm (v : Byte) : Statement (.cmpImm v) := ⟨rfl, rfl, rfl⟩
theorem cmpZp (v : Byte) : Statement (.cmpZp v) := ⟨rfl, rfl, rfl⟩
theorem cmpZpx (v : Byte) : Statement (.cmpZpx v) := ⟨rfl, rfl, rfl⟩
theorem cmpAbs (v : Word) : Statement (.cmpAbs v) := ⟨rfl, rfl, rfl⟩
theorem cmpAbsx (v : Word) : Statement (.cmpAbsx v) := ⟨rfl, rfl, rfl⟩
theorem cmpAbsy (v : Word) : Statement (.cmpAbsy v) := ⟨rfl, rfl, rfl⟩
theorem cmpIndx (v : Byte) : Statement (.cmpIndx v) := ⟨rfl, rfl, rfl⟩
theorem cmpIndy (v : Byte) : Statement (.cmpIndy v) := ⟨rfl, rfl, rfl⟩
theorem cpxImm (v : Byte) : Statement (.cpxImm v) := ⟨rfl, rfl, rfl⟩
theorem cpxZp (v : Byte) : Statement (.cpxZp v) := ⟨rfl, rfl, rfl⟩
theorem cpxAbs (v : Word) : Statement (.cpxAbs v) := ⟨rfl, rfl, rfl⟩
theorem cpyImm (v : Byte) : Statement (.cpyImm v) := ⟨rfl, rfl, rfl⟩
theorem cpyZp (v : Byte) : Statement (.cpyZp v) := ⟨rfl, rfl, rfl⟩
theorem cpyAbs (v : Word) : Statement (.cpyAbs v) := ⟨rfl, rfl, rfl⟩
theorem adcImm (v : Byte) : Statement (.adcImm v) := ⟨rfl, rfl, rfl⟩
theorem adcZp (v : Byte) : Statement (.adcZp v) := ⟨rfl, rfl, rfl⟩
theorem adcZpx (v : Byte) : Statement (.adcZpx v) := ⟨rfl, rfl, rfl⟩
theorem adcAbs (v : Word) : Statement (.adcAbs v) := ⟨rfl, rfl, rfl⟩
theorem adcAbsx (v : Word) : Statement (.adcAbsx v) := ⟨rfl, rfl, rfl⟩
theorem adcAbsy (v : Word) : Statement (.adcAbsy v) := ⟨rfl, rfl, rfl⟩
theorem adcIndx (v : Byte) : Statement (.adcIndx v) := ⟨rfl, rfl, rfl⟩
theorem adcIndy (v : Byte) : Statement (.adcIndy v) := ⟨rfl, rfl, rfl⟩
theorem sbcImm (v : Byte) : Statement (.sbcImm v) := ⟨rfl, rfl, rfl⟩
theorem sbcZp (v : Byte) : Statement (.sbcZp v) := ⟨rfl, rfl, rfl⟩
theorem sbcZpx (v : Byte) : Statement (.sbcZpx v) := ⟨rfl, rfl, rfl⟩
theorem sbcAbs (v : Word) : Statement (.sbcAbs v) := ⟨rfl, rfl, rfl⟩
theorem sbcAbsx (v : Word) : Statement (.sbcAbsx v) := ⟨rfl, rfl, rfl⟩
theorem sbcAbsy (v : Word) : Statement (.sbcAbsy v) := ⟨rfl, rfl, rfl⟩
theorem sbcIndx (v : Byte) : Statement (.sbcIndx v) := ⟨rfl, rfl, rfl⟩
theorem sbcIndy (v : Byte) : Statement (.sbcIndy v) := ⟨rfl, rfl, rfl⟩
theorem aslZp (v : Byte) : Statement (.aslZp v) := ⟨rfl, rfl, rfl⟩
theorem aslZpx (v : Byte) : Statement (.aslZpx v) := ⟨rfl, rfl, rfl⟩
theorem aslAbs (v : Word) : Statement (.aslAbs v) := ⟨rfl, rfl, rfl⟩
theorem aslAbsx (v : Word) : Statement (.aslAbsx v) := ⟨rfl, rfl, rfl⟩
theorem aslAcc : Statement .aslAcc := ⟨rfl, rfl, rfl⟩
theorem lsrZp (v : Byte) : Statement (.lsrZp v) := ⟨rfl, rfl, rfl⟩
theorem lsrZpx (v : Byte) : Statement (.lsrZpx v) := ⟨rfl, rfl, rfl⟩
theorem lsrAbs (v : Word) : Statement (.lsrAbs v) := ⟨rfl, rfl, rfl⟩
theorem lsrAbsx (v : Word) : Statement (.lsrAbsx v) := ⟨rfl, rfl, rfl⟩
theorem lsrAcc : Statement .lsrAcc := ⟨rfl, rfl, rfl⟩
theorem rolZp (v : Byte) : Statement (.rolZp v) := ⟨rfl, rfl, rfl⟩
theorem rolZpx (v : Byte) : Statement (.rolZpx v) := ⟨rfl, rfl, rfl⟩
theorem rolAbs (v : Word) : Statement (.rolAbs v) := ⟨rfl, rfl, rfl⟩
theorem rolAbsx (v : Word) : Statement (.rolAbsx v) := ⟨rfl, rfl, rfl⟩
theorem rolAcc : Statement .rolAcc := ⟨rfl, rfl, rfl⟩
theorem rorZp (v : Byte) : Statement (.rorZp v) := ⟨rfl, rfl, rfl⟩
theorem rorZpx (v : Byte) : Statement (.rorZpx v) := ⟨rfl, rfl, rfl⟩
theorem rorAbs (v : Word) : Statement (.rorAbs v) := ⟨rfl, rfl, rfl⟩
theorem rorAbsx (v : Word) : Statement (.rorAbsx v) := ⟨rfl, rfl, rfl⟩
theorem rorAcc : Statement .rorAcc := ⟨rfl, rfl, rfl⟩
theorem incZp (v : Byte) : Statement (.incZp v) := ⟨rfl, rfl, rfl⟩
theorem incZpx (v : Byte) : Statement (.incZpx v) := ⟨rfl, rfl, rfl⟩
theorem incAbs (v : Word) : Statement (.incAbs v) := ⟨rfl, rfl, rfl⟩
theorem incAbsx (v : Word) : Statement (.incAbsx v) := ⟨rfl, rfl, rfl⟩
theorem decZp (v : Byte) : Statement (.decZp v) := ⟨rfl, rfl, rfl⟩
theorem decZpx (v : Byte) : Statement (.decZpx v) := ⟨rfl, rfl, rfl⟩
theorem decAbs (v : Word) : Statement (.decAbs v) := ⟨rfl, rfl, rfl⟩
theorem decAbsx (v : Word) : Statement (.decAbsx v) := ⟨rfl, rfl, rfl⟩
theorem jmpAbs (v : Word) : Statement (.jmpAbs v) := ⟨rfl, rfl, rfl⟩
theorem jmpInd (v : Word) : Statement (.jmpInd v) := ⟨rfl, rfl, rfl⟩
theorem jsr (v : Word) : Statement (.jsr v) := ⟨rfl, rfl, rfl⟩
theorem brk : Statement .brk := ⟨rfl, rfl, rfl⟩
theorem rts : Statement .rts := ⟨rfl, rfl, rfl⟩
theorem rti : Statement .rti := ⟨rfl, rfl, rfl⟩
theorem php : Statement .php := ⟨rfl, rfl, rfl⟩
theorem plp : Statement .plp := ⟨rfl, rfl, rfl⟩
theorem pha : Statement .pha := ⟨rfl, rfl, rfl⟩
theorem pla : Statement .pla := ⟨rfl, rfl, rfl⟩
theorem inx : Statement .inx := ⟨rfl, rfl, rfl⟩
theorem dex : Statement .dex := ⟨rfl, rfl, rfl⟩
theorem iny : Statement .iny := ⟨rfl, rfl, rfl⟩
theorem dey : Statement .dey := ⟨rfl, rfl, rfl⟩
theorem tax : Statement .tax := ⟨rfl, rfl, rfl⟩
theorem txa : Statement .txa := ⟨rfl, rfl, rfl⟩
theorem tay : Statement .tay := ⟨rfl, rfl, rfl⟩
theorem tya : Statement .tya := ⟨rfl, rfl, rfl⟩
theorem tsx : Statement .tsx := ⟨rfl, rfl, rfl⟩
theorem txs : Statement .txs := ⟨rfl, rfl, rfl⟩
theorem sed : Statement .sed := ⟨rfl, rfl, rfl⟩
theorem cld : Statement .cld := ⟨rfl, rfl, rfl⟩
theorem sei : Statement .sei := ⟨rfl, rfl, rfl⟩
theorem cli : Statement .cli := ⟨rfl, rfl, rfl⟩
theorem sec : Statement .sec := ⟨rfl, rfl, rfl⟩
theorem clc : Statement .clc := ⟨rfl, rfl, rfl⟩
theorem clv : Statement .clv := ⟨rfl, rfl, rfl⟩
theorem nop : Statement .nop := ⟨rfl, rfl, rfl⟩
theorem beq (v : Byte) : Statement (.beq v) := ⟨rfl, rfl, rfl⟩
theorem bne (v : Byte) : Statement (.bne v) := ⟨rfl, rfl, rfl⟩
theorem bmi (v : Byte) : Statement (.bmi v) := ⟨rfl, rfl, rfl⟩
theorem bpl (v : Byte) : Statement (.bpl v) := ⟨rfl, rfl, rfl⟩
theorem bcc (v : Byte) : Statement (.bcc v) := ⟨rfl, rfl, rfl⟩
theorem bcs (v : Byte) : Statement (.bcs v) := ⟨rfl, rfl, rfl⟩
theorem bvc (v : Byte) : Statement (.bvc v) := ⟨rfl, rfl, rfl⟩
theorem bvs (v : Byte) : Statement (.bvs v) := ⟨rfl, rfl, rfl⟩

end Sys2Proof.Laws.EncodingLength
end

