-- ==== Sys2Proof/Laws/Step.lean ====
section
/-! SUPPORT. What one step can do, said once: the four cases of `step`, and that fetching changes draws and events
alone. -/

namespace Sys2Proof.Machine

/-- Two readings one after the other change draws and events alone when each does. -/
theorem State.shape_trans {s t u : State} (h : t = { s with draws := t.draws, events := t.events })
    (k : u = { t with draws := u.draws, events := u.events }) :
    u = { s with draws := u.draws, events := u.events } := by
  rw [h] at k
  exact k

/-- Fetching bytes changes draws and events alone (R7, R52). -/
theorem State.fetchBytes_shape (n : Nat) (a : Word) (s : State) :
    (State.fetchBytes n a s).2 =
      { s with draws := (State.fetchBytes n a s).2.draws, events := (State.fetchBytes n a s).2.events } := by
  induction n generalizing a s with
  | zero => rfl
  | succ n ih => exact State.shape_trans (s.memRead_shape a) (ih (a + 1) (s.memRead a).2)

/-- Fetching an instruction changes draws and events alone (R7, R65). -/
theorem State.fetchInstruction_shape (s : State) :
    s.fetchInstruction.2 =
      { s with draws := s.fetchInstruction.2.draws, events := s.fetchInstruction.2.events } :=
  State.shape_trans (s.memRead_shape s.pc) (State.fetchBytes_shape _ _ _)

theorem State.fetchBytes_length (n : Nat) (a : Word) (s : State) : (State.fetchBytes n a s).1.length = n := by
  induction n generalizing a s with
  | zero => rfl
  | succ n ih => simp [State.fetchBytes, ih]

/-- A fetched byte that stands in RAM or ROM is the stored one, whatever was read before it (R52, R65). -/
theorem State.fetchBytes_stored (n k : Nat) (a : Word) (s : State) (hk : k < n)
    (hs : s.kindAt (a + BitVec.ofNat 16 k) = .ram ∨ s.kindAt (a + BitVec.ofNat 16 k) = .rom) :
    (State.fetchBytes n a s).1[k]? = some (s.peek (a + BitVec.ofNat 16 k)) := by
  induction n generalizing k a s with
  | zero => omega
  | succ n ih =>
    cases k with
    | zero =>
      have e : a + BitVec.ofNat 16 0 = a := by simp
      rw [e] at hs ⊢
      simp [State.fetchBytes, s.memRead_stored a hs]
    | succ k =>
      have e : a + BitVec.ofNat 16 (k + 1) = (a + 1) + BitVec.ofNat 16 k := by
        rw [BitVec.ofNat_add]; bv_omega
      rw [e] at hs ⊢
      simpa [State.fetchBytes] using ih k (a + 1) (s.memRead a).2 (by omega) (by simpa using hs)

/-- The same of a whole instruction, opcode and operand bytes (R65). -/
theorem State.fetchInstruction_stored (k : Nat) (s : State) (hk : k < s.fetchInstruction.1.length)
    (hs : s.kindAt (s.pc + BitVec.ofNat 16 k) = .ram ∨ s.kindAt (s.pc + BitVec.ofNat 16 k) = .rom) :
    s.fetchInstruction.1[k]? = some (s.peek (s.pc + BitVec.ofNat 16 k)) := by
  cases k with
  | zero =>
    have e : s.pc + BitVec.ofNat 16 0 = s.pc := by simp
    rw [e] at hs ⊢
    simp [State.fetchInstruction, s.memRead_stored _ hs]
  | succ k =>
    have e : s.pc + BitVec.ofNat 16 (k + 1) = (s.pc + 1) + BitVec.ofNat 16 k := by
      rw [BitVec.ofNat_add]; bv_omega
    rw [e] at hs ⊢
    simp only [State.fetchInstruction, List.length_cons, State.fetchBytes_length] at hk
    simpa [State.fetchInstruction] using State.fetchBytes_stored (opcodeLength (s.memRead s.pc).1 - 1) k (s.pc + 1)
      (s.memRead s.pc).2 (by omega) (by simpa using hs)

/-- What a fetch that decodes answers. -/
theorem State.fetchDecode_ok {s u : State} {i : Instr} (h : s.fetchDecode = .ok (i, u)) :
    (∃ rest, decode s.fetchInstruction.1 = .ok (i, rest)) ∧ u = s.fetchInstruction.2 := by
  unfold State.fetchDecode at h
  split at h
  · next j rest e => cases h; exact ⟨⟨rest, e⟩, rfl⟩
  · cases h

/-- A fetch that decodes leaves everything but draws and events. -/
theorem State.fetchDecode_shape {s u : State} {i : Instr} (h : s.fetchDecode = .ok (i, u)) :
    u = { s with draws := u.draws, events := u.events } := by
  rw [(State.fetchDecode_ok h).2]
  exact s.fetchInstruction_shape

/-! ### RESET -/

/-- Scrambling writes RAM at the listed addresses and counts draws, and leaves everything else. -/
theorem State.scramble_shape (l : List Word) (s : State) :
    State.scramble l s = { s with mem := (State.scramble l s).mem, draws := (State.scramble l s).draws } := by
  induction l generalizing s with
  | nil => rfl
  | cons a l ih =>
    unfold State.scramble
    split
    · next h =>
      rw [State.memWrite_ram s.drawByte.2 a s.drawByte.1 h, ih]
      rfl
    · exact ih s

theorem State.scramble_wf (l : List Word) (s : State) (h : s.mem.wf = true) : (State.scramble l s).mem.wf = true := by
  induction l generalizing s with
  | nil => exact h
  | cons a l ih =>
    unfold State.scramble
    split
    · exact ih _ (State.memWrite_wf _ _ _ h)
    · exact ih s h

theorem State.scramble_kindAt (l : List Word) (s : State) (k : Word) : (State.scramble l s).kindAt k = s.kindAt k := by
  rw [State.scramble_shape]
  rfl

/-- Scrambling leaves every address that is not listed. -/
theorem State.scramble_peek_other (l : List Word) (s : State) {k : Word} (hk : k ∉ l) :
    (State.scramble l s).peek k = s.peek k := by
  induction l generalizing s with
  | nil => rfl
  | cons a l ih =>
    rw [List.mem_cons, not_or] at hk
    unfold State.scramble
    split
    · rw [ih _ hk.2, State.memWrite_peek_other s.drawByte.2 a _ hk.1]
      rfl
    · exact ih s hk.2

/-- Scrambling changes nothing where the map does not say RAM. -/
theorem State.scramble_peek_notRam (l : List Word) (s : State) {k : Word}
    (hk : s.kindAt k ≠ .ram) : (State.scramble l s).peek k = s.peek k := by
  induction l generalizing s with
  | nil => rfl
  | cons a l ih =>
    unfold State.scramble
    split
    · rw [ih _ (by simpa using hk),
        State.memWrite_peek_notRam s.drawByte.2 a _ hk]
      rfl
    · exact ih s hk

/-- What scrambling leaves at the listed addresses that are RAM: a free byte each, no two of one count, all counts from
the present one on (R11, R250). -/
theorem State.scramble_counts (l : List Word) (s : State) :
    s.draws ≤ (State.scramble l s).draws ∧ ∃ c : Word → Nat,
      (∀ a ∈ l, s.kindAt a = .ram → s.draws ≤ c a ∧ c a < (State.scramble l s).draws ∧
        (State.scramble l s).peek a = Config.drawByte (c a)) ∧
      ∀ a ∈ l, ∀ b ∈ l, s.kindAt a = .ram → s.kindAt b = .ram → c a = c b → a = b := by
  induction l generalizing s with
  | nil => exact ⟨le_refl _, fun _ => 0, by simp, by simp⟩
  | cons b l ih =>
    unfold State.scramble
    split
    · next hb =>
      have hd : (s.drawByte.2.memWrite b s.drawByte.1).draws = s.draws + 1 := by
        rw [State.memWrite_ram s.drawByte.2 b _ hb]; rfl
      have hkk : ∀ a, (s.drawByte.2.memWrite b s.drawByte.1).kindAt a = s.kindAt a := by
        intro a; rw [State.memWrite_ram s.drawByte.2 b _ hb]; rfl
      obtain ⟨h1, c, h2, h3⟩ := ih (s.drawByte.2.memWrite b s.drawByte.1)
      rw [hd] at h1 h2
      simp only [hkk] at h2 h3
      refine ⟨by omega, fun a => if a ∈ l then c a else s.draws, fun a ha hr => ?_, fun a ha a' ha' hr hr' e => ?_⟩
      · by_cases hal : a ∈ l
        · simp only [hal, if_true]; have := h2 a hal hr; exact ⟨by omega, this.2⟩
        · have : a = b := by simpa [hal] using ha
          subst this
          simp only [hal, if_false]
          refine ⟨le_refl _, by omega, ?_⟩
          rw [State.scramble_peek_other _ _ hal, State.memWrite_peek_same s.drawByte.2 _ _ hb]; rfl
      · by_cases hal : a ∈ l <;> by_cases hal' : a' ∈ l <;> simp only [hal, hal', if_true, if_false] at e
        · exact h3 a hal a' hal' hr hr' e
        · have := (h2 a hal hr).1; omega
        · have := (h2 a' hal' hr').1; omega
        · have : a = b := by simpa [hal] using ha
          have : a' = b := by simpa [hal'] using ha'
          simp_all
    · next hb =>
      obtain ⟨h1, c, h2, h3⟩ := ih s
      have key : ∀ a ∈ b :: l, s.kindAt a = .ram → a ∈ l := by
        intro a ha hr
        rcases List.mem_cons.1 ha with rfl | h
        · exact absurd hr hb
        · exact h
      exact ⟨h1, c, fun a ha hr => h2 a (key a ha hr) hr, fun a ha a' ha' hr hr' e => h3 a (key a ha hr) a' (key a' ha' hr') hr hr' e⟩

/-- What a reset that answers a next state did: the reset step at the boundary, or after the bytes that the abandoned
instruction would store were scrambled (R250). -/
theorem State.takeReset_cases {s t : State} (h : s.takeReset = .next t) :
    (s.boundaryInput.resetInside = false ∧ t = s.sampled.resetStep) ∨
    (s.boundaryInput.resetInside = true ∧ ∃ i u v, s.sampled.fetchDecode = .ok (i, u) ∧ exec i u = .next v ∧
      t = (State.scramble (storesTo i u) { s.sampled with draws := v.draws }).resetStep) := by
  unfold State.takeReset at h
  split at h
  · next e =>
    unfold State.resetInsideInstruction at h
    split at h
    · next i u f =>
      split at h
      · next v x => cases h; exact .inr ⟨e, i, u, v, f, x, rfl⟩
      · cases h
      · cases h
    · cases h
  · next e => cases h; exact .inl ⟨by simpa using e, rfl⟩

/-! ### The step -/

/-- A step that answers a next state is a reset, an interrupt entry, or the execution of the fetched instruction (R7). -/
theorem step_cases {s t : State} (h : step s = .next t) :
    (s.boundaryEvent = .reset ∧ s.takeReset = .next t) ∨
    (s.boundaryEvent = .nmi ∧ t = s.sampled.enterNmi) ∨
    (s.boundaryEvent = .irq ∧ t = s.sampled.enterIrq) ∨
    (s.boundaryEvent = .instruction ∧
      ∃ i u, s.sampled.beginInstruction.fetchDecode = .ok (i, u) ∧ exec i u = .next t) := by
  unfold step at h
  split at h
  · next e => exact .inl ⟨e, h⟩
  · next e => cases h; exact .inr (.inl ⟨e, rfl⟩)
  · next e => cases h; exact .inr (.inr (.inl ⟨e, rfl⟩))
  · next e =>
    unfold State.runInstruction at h
    split at h
    · next i u f => exact .inr (.inr (.inr ⟨e, i, u, f, h⟩))
    · cases h

end Sys2Proof.Machine
end

