-- ==== Sys2Proof/Machine/Assembly.lean ====
section
/-! DEFINITION. The conventional assembler syntax of R98, as a printer only: no step reads it, and the card defines no
pseudo-instruction or alias (R99; log 27). -/

namespace Sys2Proof.Machine

/-- One hexadecimal digit. -/
def hexDigit (n : Nat) : Char := if n < 10 then Char.ofNat (48 + n) else Char.ofNat (55 + n)

/-- A byte as two hexadecimal digits. -/
def hex8 (b : Byte) : String := String.ofList [hexDigit (b.toNat / 16), hexDigit (b.toNat % 16)]

/-- A word as four hexadecimal digits. -/
def hex16 (w : Word) : String := hex8 (hi w) ++ hex8 (lo w)

/-- The three capital letters of a mnemonic (R98). -/
def mnemonicText : Mnemonic → String
  | .lda => "LDA" | .sta => "STA" | .ldx => "LDX" | .stx => "STX" | .ldy => "LDY" | .sty => "STY"
  | .and => "AND" | .ora => "ORA" | .eor => "EOR" | .bit => "BIT" | .cmp => "CMP" | .cpx => "CPX"
  | .cpy => "CPY"
  | .adc => "ADC" | .sbc => "SBC"
  | .asl => "ASL" | .lsr => "LSR" | .rol => "ROL" | .ror => "ROR" | .inc => "INC" | .dec => "DEC"
  | .jmp => "JMP" | .jsr => "JSR"
  | .brk => "BRK" | .rts => "RTS" | .rti => "RTI" | .php => "PHP" | .plp => "PLP" | .pha => "PHA"
  | .pla => "PLA"
  | .inx => "INX" | .dex => "DEX" | .iny => "INY" | .dey => "DEY" | .tax => "TAX" | .txa => "TXA"
  | .tay => "TAY" | .tya => "TYA" | .tsx => "TSX" | .txs => "TXS" | .sed => "SED" | .cld => "CLD"
  | .sei => "SEI" | .cli => "CLI" | .sec => "SEC" | .clc => "CLC" | .clv => "CLV" | .nop => "NOP"
  | .beq => "BEQ" | .bne => "BNE" | .bmi => "BMI" | .bpl => "BPL" | .bcc => "BCC" | .bcs => "BCS"
  | .bvc => "BVC" | .bvs => "BVS"

/-- An operand as R98 writes it; a branch shows its target address, for an instruction at `at0`. -/
def operandText (at0 : Word) : Operand → String
  | .imp => ""
  | .acc => " A"
  | .data (.imm b) => " #$" ++ hex8 b
  | .data (.mem (.zp b)) => " $" ++ hex8 b
  | .data (.mem (.zpx b)) => " $" ++ hex8 b ++ ",X"
  | .data (.mem (.zpy b)) => " $" ++ hex8 b ++ ",Y"
  | .data (.mem (.abs w)) => " $" ++ hex16 w
  | .data (.mem (.absx w)) => " $" ++ hex16 w ++ ",X"
  | .data (.mem (.absy w)) => " $" ++ hex16 w ++ ",Y"
  | .data (.mem (.indx b)) => " ($" ++ hex8 b ++ ",X)"
  | .data (.mem (.indy b)) => " ($" ++ hex8 b ++ "),Y"
  | .ind w => " ($" ++ hex16 w ++ ")"
  | .rel d => " $" ++ hex16 (at0 + 2 + sext d)

/-- The instruction at address `at0` in the syntax of R98. -/
def assembly (at0 : Word) (i : Instr) : String :=
  mnemonicText i.mnemonic ++ operandText at0 i.operand

end Sys2Proof.Machine
end

