-- ==== Sys2Proof/Tests/Slice0.lean ====
section
/-! SUPPORT. The model's own tests: ill-formed operands refused, every opcode byte of the matrix decoded, single steps from
spec/95_test_vectors.md, and for every statement with hypotheses a concrete case that meets them. -/

namespace Sys2Proof.Tests

open Sys2Proof.Machine Sys2Proof.Claims

/-! ### Well-formedness: an operand each mnemonic does not have (R125) -/

theorem test_sta_has_no_immediate : modeAvailable .sta (.data (.imm 0x00)) = false := by decide
theorem test_stx_has_no_zpx : modeAvailable .stx (.data (.mem (.zpx 0x00))) = false := by decide
theorem test_ldy_has_no_absy : modeAvailable .ldy (.data (.mem (.absy 0x0000))) = false := by decide
theorem test_inc_has_no_accumulator : modeAvailable .inc .acc = false := by decide
theorem test_jsr_has_no_indirect : modeAvailable .jsr (.ind 0x0000) = false := by decide
theorem test_jmp_has_no_zero_page : modeAvailable .jmp (.data (.mem (.zp 0x00))) = false := by decide
theorem test_beq_is_relative_only : modeAvailable .beq .imp = false := by decide
theorem test_nop_has_no_operand : modeAvailable .nop (.rel 0x00) = false := by decide

/-! ### Decoding: every cell of the matrix, written from R84 to R87, with an operand of distinct bytes -/

/-- Row 0 of the matrix of R84. -/
theorem test_decode_row_0 :
    decode [0x00] = .ok (.brk, []) ∧
    decode [0x01, 0x9C] = .ok (.oraIndx 0x9C, []) ∧
    decode [0x05, 0x9C] = .ok (.oraZp 0x9C, []) ∧
    decode [0x06, 0x9C] = .ok (.aslZp 0x9C, []) ∧
    decode [0x08] = .ok (.php, []) ∧
    decode [0x09, 0x9C] = .ok (.oraImm 0x9C, []) ∧
    decode [0x0A] = .ok (.aslAcc, []) ∧
    decode [0x0D, 0x34, 0xD2] = .ok (.oraAbs 0xD234, []) ∧
    decode [0x0E, 0x34, 0xD2] = .ok (.aslAbs 0xD234, []) :=
  ⟨rfl, rfl, rfl, rfl, rfl, rfl, rfl, rfl, rfl⟩

/-- Row 1 of the matrix of R84. -/
theorem test_decode_row_1 :
    decode [0x10, 0x9C] = .ok (.bpl 0x9C, []) ∧
    decode [0x11, 0x9C] = .ok (.oraIndy 0x9C, []) ∧
    decode [0x15, 0x9C] = .ok (.oraZpx 0x9C, []) ∧
    decode [0x16, 0x9C] = .ok (.aslZpx 0x9C, []) ∧
    decode [0x18] = .ok (.clc, []) ∧
    decode [0x19, 0x34, 0xD2] = .ok (.oraAbsy 0xD234, []) ∧
    decode [0x1D, 0x34, 0xD2] = .ok (.oraAbsx 0xD234, []) ∧
    decode [0x1E, 0x34, 0xD2] = .ok (.aslAbsx 0xD234, []) :=
  ⟨rfl, rfl, rfl, rfl, rfl, rfl, rfl, rfl⟩

/-- Row 2 of the matrix of R84. -/
theorem test_decode_row_2 :
    decode [0x20, 0x34, 0xD2] = .ok (.jsr 0xD234, []) ∧
    decode [0x21, 0x9C] = .ok (.andIndx 0x9C, []) ∧
    decode [0x24, 0x9C] = .ok (.bitZp 0x9C, []) ∧
    decode [0x25, 0x9C] = .ok (.andZp 0x9C, []) ∧
    decode [0x26, 0x9C] = .ok (.rolZp 0x9C, []) ∧
    decode [0x28] = .ok (.plp, []) ∧
    decode [0x29, 0x9C] = .ok (.andImm 0x9C, []) ∧
    decode [0x2A] = .ok (.rolAcc, []) ∧
    decode [0x2C, 0x34, 0xD2] = .ok (.bitAbs 0xD234, []) ∧
    decode [0x2D, 0x34, 0xD2] = .ok (.andAbs 0xD234, []) ∧
    decode [0x2E, 0x34, 0xD2] = .ok (.rolAbs 0xD234, []) :=
  ⟨rfl, rfl, rfl, rfl, rfl, rfl, rfl, rfl, rfl, rfl, rfl⟩

/-- Row 3 of the matrix of R84. -/
theorem test_decode_row_3 :
    decode [0x30, 0x9C] = .ok (.bmi 0x9C, []) ∧
    decode [0x31, 0x9C] = .ok (.andIndy 0x9C, []) ∧
    decode [0x35, 0x9C] = .ok (.andZpx 0x9C, []) ∧
    decode [0x36, 0x9C] = .ok (.rolZpx 0x9C, []) ∧
    decode [0x38] = .ok (.sec, []) ∧
    decode [0x39, 0x34, 0xD2] = .ok (.andAbsy 0xD234, []) ∧
    decode [0x3D, 0x34, 0xD2] = .ok (.andAbsx 0xD234, []) ∧
    decode [0x3E, 0x34, 0xD2] = .ok (.rolAbsx 0xD234, []) :=
  ⟨rfl, rfl, rfl, rfl, rfl, rfl, rfl, rfl⟩

/-- Row 4 of the matrix of R84. -/
theorem test_decode_row_4 :
    decode [0x40] = .ok (.rti, []) ∧
    decode [0x41, 0x9C] = .ok (.eorIndx 0x9C, []) ∧
    decode [0x45, 0x9C] = .ok (.eorZp 0x9C, []) ∧
    decode [0x46, 0x9C] = .ok (.lsrZp 0x9C, []) ∧
    decode [0x48] = .ok (.pha, []) ∧
    decode [0x49, 0x9C] = .ok (.eorImm 0x9C, []) ∧
    decode [0x4A] = .ok (.lsrAcc, []) ∧
    decode [0x4C, 0x34, 0xD2] = .ok (.jmpAbs 0xD234, []) ∧
    decode [0x4D, 0x34, 0xD2] = .ok (.eorAbs 0xD234, []) ∧
    decode [0x4E, 0x34, 0xD2] = .ok (.lsrAbs 0xD234, []) :=
  ⟨rfl, rfl, rfl, rfl, rfl, rfl, rfl, rfl, rfl, rfl⟩

/-- Row 5 of the matrix of R84. -/
theorem test_decode_row_5 :
    decode [0x50, 0x9C] = .ok (.bvc 0x9C, []) ∧
    decode [0x51, 0x9C] = .ok (.eorIndy 0x9C, []) ∧
    decode [0x55, 0x9C] = .ok (.eorZpx 0x9C, []) ∧
    decode [0x56, 0x9C] = .ok (.lsrZpx 0x9C, []) ∧
    decode [0x58] = .ok (.cli, []) ∧
    decode [0x59, 0x34, 0xD2] = .ok (.eorAbsy 0xD234, []) ∧
    decode [0x5D, 0x34, 0xD2] = .ok (.eorAbsx 0xD234, []) ∧
    decode [0x5E, 0x34, 0xD2] = .ok (.lsrAbsx 0xD234, []) :=
  ⟨rfl, rfl, rfl, rfl, rfl, rfl, rfl, rfl⟩

/-- Row 6 of the matrix of R84. -/
theorem test_decode_row_6 :
    decode [0x60] = .ok (.rts, []) ∧
    decode [0x61, 0x9C] = .ok (.adcIndx 0x9C, []) ∧
    decode [0x65, 0x9C] = .ok (.adcZp 0x9C, []) ∧
    decode [0x66, 0x9C] = .ok (.rorZp 0x9C, []) ∧
    decode [0x68] = .ok (.pla, []) ∧
    decode [0x69, 0x9C] = .ok (.adcImm 0x9C, []) ∧
    decode [0x6A] = .ok (.rorAcc, []) ∧
    decode [0x6C, 0x34, 0xD2] = .ok (.jmpInd 0xD234, []) ∧
    decode [0x6D, 0x34, 0xD2] = .ok (.adcAbs 0xD234, []) ∧
    decode [0x6E, 0x34, 0xD2] = .ok (.rorAbs 0xD234, []) :=
  ⟨rfl, rfl, rfl, rfl, rfl, rfl, rfl, rfl, rfl, rfl⟩

/-- Row 7 of the matrix of R84. -/
theorem test_decode_row_7 :
    decode [0x70, 0x9C] = .ok (.bvs 0x9C, []) ∧
    decode [0x71, 0x9C] = .ok (.adcIndy 0x9C, []) ∧
    decode [0x75, 0x9C] = .ok (.adcZpx 0x9C, []) ∧
    decode [0x76, 0x9C] = .ok (.rorZpx 0x9C, []) ∧
    decode [0x78] = .ok (.sei, []) ∧
    decode [0x79, 0x34, 0xD2] = .ok (.adcAbsy 0xD234, []) ∧
    decode [0x7D, 0x34, 0xD2] = .ok (.adcAbsx 0xD234, []) ∧
    decode [0x7E, 0x34, 0xD2] = .ok (.rorAbsx 0xD234, []) :=
  ⟨rfl, rfl, rfl, rfl, rfl, rfl, rfl, rfl⟩

/-- Row 8 of the matrix of R84. -/
theorem test_decode_row_8 :
    decode [0x81, 0x9C] = .ok (.staIndx 0x9C, []) ∧
    decode [0x84, 0x9C] = .ok (.styZp 0x9C, []) ∧
    decode [0x85, 0x9C] = .ok (.staZp 0x9C, []) ∧
    decode [0x86, 0x9C] = .ok (.stxZp 0x9C, []) ∧
    decode [0x88] = .ok (.dey, []) ∧
    decode [0x8A] = .ok (.txa, []) ∧
    decode [0x8C, 0x34, 0xD2] = .ok (.styAbs 0xD234, []) ∧
    decode [0x8D, 0x34, 0xD2] = .ok (.staAbs 0xD234, []) ∧
    decode [0x8E, 0x34, 0xD2] = .ok (.stxAbs 0xD234, []) :=
  ⟨rfl, rfl, rfl, rfl, rfl, rfl, rfl, rfl, rfl⟩

/-- Row 9 of the matrix of R84. -/
theorem test_decode_row_9 :
    decode [0x90, 0x9C] = .ok (.bcc 0x9C, []) ∧
    decode [0x91, 0x9C] = .ok (.staIndy 0x9C, []) ∧
    decode [0x94, 0x9C] = .ok (.styZpx 0x9C, []) ∧
    decode [0x95, 0x9C] = .ok (.staZpx 0x9C, []) ∧
    decode [0x96, 0x9C] = .ok (.stxZpy 0x9C, []) ∧
    decode [0x98] = .ok (.tya, []) ∧
    decode [0x99, 0x34, 0xD2] = .ok (.staAbsy 0xD234, []) ∧
    decode [0x9A] = .ok (.txs, []) ∧
    decode [0x9D, 0x34, 0xD2] = .ok (.staAbsx 0xD234, []) :=
  ⟨rfl, rfl, rfl, rfl, rfl, rfl, rfl, rfl, rfl⟩

/-- Row A of the matrix of R84. -/
theorem test_decode_row_a :
    decode [0xA0, 0x9C] = .ok (.ldyImm 0x9C, []) ∧
    decode [0xA1, 0x9C] = .ok (.ldaIndx 0x9C, []) ∧
    decode [0xA2, 0x9C] = .ok (.ldxImm 0x9C, []) ∧
    decode [0xA4, 0x9C] = .ok (.ldyZp 0x9C, []) ∧
    decode [0xA5, 0x9C] = .ok (.ldaZp 0x9C, []) ∧
    decode [0xA6, 0x9C] = .ok (.ldxZp 0x9C, []) ∧
    decode [0xA8] = .ok (.tay, []) ∧
    decode [0xA9, 0x9C] = .ok (.ldaImm 0x9C, []) ∧
    decode [0xAA] = .ok (.tax, []) ∧
    decode [0xAC, 0x34, 0xD2] = .ok (.ldyAbs 0xD234, []) ∧
    decode [0xAD, 0x34, 0xD2] = .ok (.ldaAbs 0xD234, []) ∧
    decode [0xAE, 0x34, 0xD2] = .ok (.ldxAbs 0xD234, []) :=
  ⟨rfl, rfl, rfl, rfl, rfl, rfl, rfl, rfl, rfl, rfl, rfl, rfl⟩

/-- Row B of the matrix of R84. -/
theorem test_decode_row_b :
    decode [0xB0, 0x9C] = .ok (.bcs 0x9C, []) ∧
    decode [0xB1, 0x9C] = .ok (.ldaIndy 0x9C, []) ∧
    decode [0xB4, 0x9C] = .ok (.ldyZpx 0x9C, []) ∧
    decode [0xB5, 0x9C] = .ok (.ldaZpx 0x9C, []) ∧
    decode [0xB6, 0x9C] = .ok (.ldxZpy 0x9C, []) ∧
    decode [0xB8] = .ok (.clv, []) ∧
    decode [0xB9, 0x34, 0xD2] = .ok (.ldaAbsy 0xD234, []) ∧
    decode [0xBA] = .ok (.tsx, []) ∧
    decode [0xBC, 0x34, 0xD2] = .ok (.ldyAbsx 0xD234, []) ∧
    decode [0xBD, 0x34, 0xD2] = .ok (.ldaAbsx 0xD234, []) ∧
    decode [0xBE, 0x34, 0xD2] = .ok (.ldxAbsy 0xD234, []) :=
  ⟨rfl, rfl, rfl, rfl, rfl, rfl, rfl, rfl, rfl, rfl, rfl⟩

/-- Row C of the matrix of R84. -/
theorem test_decode_row_c :
    decode [0xC0, 0x9C] = .ok (.cpyImm 0x9C, []) ∧
    decode [0xC1, 0x9C] = .ok (.cmpIndx 0x9C, []) ∧
    decode [0xC4, 0x9C] = .ok (.cpyZp 0x9C, []) ∧
    decode [0xC5, 0x9C] = .ok (.cmpZp 0x9C, []) ∧
    decode [0xC6, 0x9C] = .ok (.decZp 0x9C, []) ∧
    decode [0xC8] = .ok (.iny, []) ∧
    decode [0xC9, 0x9C] = .ok (.cmpImm 0x9C, []) ∧
    decode [0xCA] = .ok (.dex, []) ∧
    decode [0xCC, 0x34, 0xD2] = .ok (.cpyAbs 0xD234, []) ∧
    decode [0xCD, 0x34, 0xD2] = .ok (.cmpAbs 0xD234, []) ∧
    decode [0xCE, 0x34, 0xD2] = .ok (.decAbs 0xD234, []) :=
  ⟨rfl, rfl, rfl, rfl, rfl, rfl, rfl, rfl, rfl, rfl, rfl⟩

/-- Row D of the matrix of R84. -/
theorem test_decode_row_d :
    decode [0xD0, 0x9C] = .ok (.bne 0x9C, []) ∧
    decode [0xD1, 0x9C] = .ok (.cmpIndy 0x9C, []) ∧
    decode [0xD5, 0x9C] = .ok (.cmpZpx 0x9C, []) ∧
    decode [0xD6, 0x9C] = .ok (.decZpx 0x9C, []) ∧
    decode [0xD8] = .ok (.cld, []) ∧
    decode [0xD9, 0x34, 0xD2] = .ok (.cmpAbsy 0xD234, []) ∧
    decode [0xDD, 0x34, 0xD2] = .ok (.cmpAbsx 0xD234, []) ∧
    decode [0xDE, 0x34, 0xD2] = .ok (.decAbsx 0xD234, []) :=
  ⟨rfl, rfl, rfl, rfl, rfl, rfl, rfl, rfl⟩

/-- Row E of the matrix of R84. -/
theorem test_decode_row_e :
    decode [0xE0, 0x9C] = .ok (.cpxImm 0x9C, []) ∧
    decode [0xE1, 0x9C] = .ok (.sbcIndx 0x9C, []) ∧
    decode [0xE4, 0x9C] = .ok (.cpxZp 0x9C, []) ∧
    decode [0xE5, 0x9C] = .ok (.sbcZp 0x9C, []) ∧
    decode [0xE6, 0x9C] = .ok (.incZp 0x9C, []) ∧
    decode [0xE8] = .ok (.inx, []) ∧
    decode [0xE9, 0x9C] = .ok (.sbcImm 0x9C, []) ∧
    decode [0xEA] = .ok (.nop, []) ∧
    decode [0xEC, 0x34, 0xD2] = .ok (.cpxAbs 0xD234, []) ∧
    decode [0xED, 0x34, 0xD2] = .ok (.sbcAbs 0xD234, []) ∧
    decode [0xEE, 0x34, 0xD2] = .ok (.incAbs 0xD234, []) :=
  ⟨rfl, rfl, rfl, rfl, rfl, rfl, rfl, rfl, rfl, rfl, rfl⟩

/-- Row F of the matrix of R84. -/
theorem test_decode_row_f :
    decode [0xF0, 0x9C] = .ok (.beq 0x9C, []) ∧
    decode [0xF1, 0x9C] = .ok (.sbcIndy 0x9C, []) ∧
    decode [0xF5, 0x9C] = .ok (.sbcZpx 0x9C, []) ∧
    decode [0xF6, 0x9C] = .ok (.incZpx 0x9C, []) ∧
    decode [0xF8] = .ok (.sed, []) ∧
    decode [0xF9, 0x34, 0xD2] = .ok (.sbcAbsy 0xD234, []) ∧
    decode [0xFD, 0x34, 0xD2] = .ok (.sbcAbsx 0xD234, []) ∧
    decode [0xFE, 0x34, 0xD2] = .ok (.incAbsx 0xD234, []) :=
  ⟨rfl, rfl, rfl, rfl, rfl, rfl, rfl, rfl⟩

/-- One word of each family, bit by bit from R85 to R87. -/
theorem test_decode_bits :
    decode [0b10110001, 0b10000001] = .ok (.ldaIndy 0x81, []) ∧
    decode [0b00101100, 0b00000001, 0b10000000] = .ok (.bitAbs 0x8001, []) ∧
    decode [0b11110101, 0b10000001] = .ok (.sbcZpx 0x81, []) ∧
    decode [0b01101010] = .ok (.rorAcc, []) ∧
    decode [0b00100000, 0b00000001, 0b10000000] = .ok (.jsr 0x8001, []) ∧
    decode [0b01000000] = .ok (.rti, []) ∧
    decode [0b10011010] = .ok (.txs, []) ∧
    decode [0b01110000, 0b10000001] = .ok (.bvs 0x81, []) :=
  ⟨rfl, rfl, rfl, rfl, rfl, rfl, rfl, rfl⟩

/-- Undefined, short and empty byte strings are refused by name (R95). -/
theorem test_decode_refuses :
    decode [0x02, 0x00, 0x00] = .error (.undefinedOpcode 0x02) ∧ decode [0xAD, 0x34] = .error (.truncated 0xAD) ∧
    decode [0xA9] = .error (.truncated 0xA9) ∧ decode [] = .error .noBytes :=
  ⟨rfl, rfl, rfl, rfl⟩

/-- The second byte of a table word is bits 15 to 8, and bits above `nbits` are 0. -/
theorem test_decode_table_word :
    decodeTableWord 24 0xD2348D = some (.staAbs 0xD234) ∧ decodeTableWord 8 0xFFFF8D = some (.staAbs 0x0000) ∧
    decodeTableWord 16 0x10A9 = some (.ldaImm 0x10) ∧ decodeTableWord 8 0x02 = none :=
  ⟨rfl, rfl, rfl, rfl⟩

/-- The conventional assembler text of R98. -/
theorem test_assembly : assembly 0x0600 (.ldaIndy 0x10) = "LDA ($10),Y" := by decide

/-! ### Single steps -/

/-- Bytes laid out from an address on. -/
def layBytes (m : Memory) (a : Word) : List Byte → Memory
  | [] => m
  | b :: bs => layBytes (m.write a.toNat b) (a + 1) bs

/-- Cells written one by one. -/
def layCells (m : Memory) : List (Word × Byte) → Memory
  | [] => m
  | (a, b) :: cs => layCells (m.write a.toNat b) cs

/-- The default state of the vectors: PC = 0x0600, S = 0xFF, every flag 0 (spec/95_test_vectors.md). -/
def machine : State :=
  { State.reset with pc := 0x0600, sp := 0xFF, p := ⟨false, false, false, false, false, false⟩ }

/-- The state with cells and an instruction placed in memory. -/
def load (s : State) (code : List Byte) (cells : List (Word × Byte)) : State :=
  { s with mem := layBytes (layCells [] cells) s.pc code }

/-- Whether one step of a loaded state answers a next state of which `ok` holds. -/
def after (s : State) (code : List Byte) (cells : List (Word × Byte)) (ok : State → Bool) : Bool :=
  match step (load s code cells) with
  | .next t => ok t
  | _ => false

/-! LDA, STA, LDX, STX, LDY, STY -/

/-- V1 of spec/95_test_vectors.md. -/
theorem test_v1_lda : after ({ machine with a := 0x55 })
    [0xA9, 0x00] []
    (fun t => t.pc = 0x0602 ∧ t.a = 0x00 ∧ t.p.z = true) = true := by decide

/-- V15 of spec/95_test_vectors.md. -/
theorem test_v15_lda : after ({ machine with y := 0x02 })
    [0xB1, 0xFF] [(0x0000, 0xFF), (0x0001, 0x5C), (0x00FF, 0xFF)]
    (fun t => t.pc = 0x0602 ∧ t.a = 0x5C) = true := by decide

/-- V22 of spec/95_test_vectors.md. -/
theorem test_v22_sta : after ({ machine with a := 0x42, p := { machine.p with n := true, v := true, z := true, c := true } })
    [0x8D, 0x00, 0x02] []
    (fun t => t.pc = 0x0603 ∧ t.peek 0x0200 = 0x42) = true := by decide

/-- V28 of spec/95_test_vectors.md. -/
theorem test_v28_sta : after ({ machine with a := 0x15, y := 0x01 })
    [0x91, 0x30] [(0x0030, 0xFF), (0x0031, 0x02)]
    (fun t => t.pc = 0x0602 ∧ t.peek 0x0300 = 0x15) = true := by decide

/-- V18 of spec/95_test_vectors.md. -/
theorem test_v18_ldx : after ({ machine with x := 0x09, y := 0x05 })
    [0xBE, 0x00, 0x03] [(0x0305, 0x00)]
    (fun t => t.pc = 0x0603 ∧ t.x = 0x00 ∧ t.p.z = true) = true := by decide

/-- V31 of spec/95_test_vectors.md. -/
theorem test_v31_stx : after ({ machine with x := 0x08 })
    [0x8E, 0x00, 0x02] []
    (fun t => t.pc = 0x0603 ∧ t.peek 0x0200 = 0x08) = true := by decide

/-- V21 of spec/95_test_vectors.md. -/
theorem test_v21_ldy : after ({ machine with x := 0x01 })
    [0xBC, 0xFF, 0x02] [(0x0300, 0x12)]
    (fun t => t.pc = 0x0603 ∧ t.y = 0x12) = true := by decide

/-- V34 of spec/95_test_vectors.md. -/
theorem test_v34_sty : after ({ machine with y := 0x34 })
    [0x8C, 0x00, 0x02] []
    (fun t => t.pc = 0x0603 ∧ t.peek 0x0200 = 0x34) = true := by decide

/-! AND, ORA, EOR, BIT, CMP, CPX, CPY -/

/-- V35 of spec/95_test_vectors.md. -/
theorem test_v35_and : after ({ machine with a := 0xF5 })
    [0x29, 0x0F] []
    (fun t => t.pc = 0x0602 ∧ t.a = 0x05) = true := by decide

/-- V37 of spec/95_test_vectors.md. -/
theorem test_v37_and : after ({ machine with a := 0xF0 })
    [0x25, 0x10] [(0x0010, 0x80)]
    (fun t => t.pc = 0x0602 ∧ t.a = 0x80 ∧ t.p.n = true) = true := by decide

/-- V38 of spec/95_test_vectors.md. -/
theorem test_v38_ora : after ({ machine with a := 0x01 })
    [0x09, 0x80] []
    (fun t => t.pc = 0x0602 ∧ t.a = 0x81 ∧ t.p.n = true) = true := by decide

/-- V40 of spec/95_test_vectors.md. -/
theorem test_v40_ora : after ({ machine with a := 0x0F })
    [0x0D, 0x00, 0x02] [(0x0200, 0x30)]
    (fun t => t.pc = 0x0603 ∧ t.a = 0x3F) = true := by decide

/-- V41 of spec/95_test_vectors.md. -/
theorem test_v41_eor : after ({ machine with a := 0x0F })
    [0x49, 0xFF] []
    (fun t => t.pc = 0x0602 ∧ t.a = 0xF0 ∧ t.p.n = true) = true := by decide

/-- V43 of spec/95_test_vectors.md. -/
theorem test_v43_eor : after ({ machine with a := 0xFF, y := 0x02 })
    [0x51, 0x40] [(0x0040, 0x00), (0x0041, 0x02), (0x0202, 0x0F)]
    (fun t => t.pc = 0x0602 ∧ t.a = 0xF0 ∧ t.p.n = true) = true := by decide

/-- V44 of spec/95_test_vectors.md. -/
theorem test_v44_bit : after ({ machine with a := 0x01 })
    [0x24, 0x10] [(0x0010, 0xC0)]
    (fun t => t.pc = 0x0602 ∧ t.p.n = true ∧ t.p.v = true ∧ t.p.z = true) = true := by decide

/-- V46 of spec/95_test_vectors.md. -/
theorem test_v46_bit : after ({ machine with a := 0x00 })
    [0x2C, 0x00, 0x02] [(0x0200, 0x40)]
    (fun t => t.pc = 0x0603 ∧ t.p.v = true ∧ t.p.z = true) = true := by decide

/-- V47 of spec/95_test_vectors.md. -/
theorem test_v47_cmp : after ({ machine with a := 0x0F })
    [0xC9, 0x10] []
    (fun t => t.pc = 0x0602 ∧ t.p.n = true) = true := by decide

/-- V53 of spec/95_test_vectors.md. -/
theorem test_v53_cmp : after ({ machine with a := 0x7F })
    [0xC5, 0x10] [(0x0010, 0xFF)]
    (fun t => t.pc = 0x0602 ∧ t.p.n = true) = true := by decide

/-- V56 of spec/95_test_vectors.md. -/
theorem test_v56_cpx : after ({ machine with x := 0xFF })
    [0xEC, 0x00, 0x02] [(0x0200, 0x00)]
    (fun t => t.pc = 0x0603 ∧ t.p.n = true ∧ t.p.c = true) = true := by decide

/-- V59 of spec/95_test_vectors.md. -/
theorem test_v59_cpy : after ({ machine with y := 0x00 })
    [0xCC, 0x00, 0x02] [(0x0200, 0xFF)]
    (fun t => t.pc = 0x0603) = true := by decide

/-! ADC, SBC -/

/-- V60 of spec/95_test_vectors.md. -/
theorem test_v60_adc : after ({ machine with a := 0x7F })
    [0x69, 0x01] []
    (fun t => t.pc = 0x0602 ∧ t.a = 0x80 ∧ t.p.n = true ∧ t.p.v = true) = true := by decide

/-- V81 of spec/95_test_vectors.md. -/
theorem test_v81_adc : after ({ machine with a := 0x99, p := { machine.p with d := true, c := true } })
    [0x69, 0x99] []
    (fun t => t.pc = 0x0602) = true := by decide

/-- V70 of spec/95_test_vectors.md. -/
theorem test_v70_sbc : after ({ machine with a := 0x00, p := { machine.p with c := true } })
    [0xE9, 0x01] []
    (fun t => t.pc = 0x0602 ∧ t.a = 0xFF ∧ t.p.n = true ∧ t.p.c = false) = true := by decide

/-- V85 of spec/95_test_vectors.md. -/
theorem test_v85_sbc : after ({ machine with a := 0x00, p := { machine.p with d := true, c := true } })
    [0xE9, 0x01] []
    (fun t => t.pc = 0x0602 ∧ t.a = 0x99 ∧ t.p.c = false) = true := by decide

/-! ASL, LSR, ROL, ROR, INC, DEC -/

/-- V86 of spec/95_test_vectors.md. -/
theorem test_v86_asl : after ({ machine with a := 0x81 })
    [0x0A] []
    (fun t => t.pc = 0x0601 ∧ t.a = 0x02 ∧ t.p.c = true) = true := by decide

/-- V90 of spec/95_test_vectors.md. -/
theorem test_v90_asl : after ({ machine with x := 0x01 })
    [0x1E, 0xFF, 0x02] [(0x0300, 0xC0)]
    (fun t => t.pc = 0x0603 ∧ t.p.n = true ∧ t.p.c = true ∧ t.peek 0x0300 = 0x80) = true := by decide

/-- V91 of spec/95_test_vectors.md. -/
theorem test_v91_lsr : after ({ machine with a := 0x03 })
    [0x4A] []
    (fun t => t.pc = 0x0601 ∧ t.a = 0x01 ∧ t.p.c = true) = true := by decide

/-- V94 of spec/95_test_vectors.md. -/
theorem test_v94_lsr : after (machine)
    [0x46, 0x10] [(0x0010, 0xFE)]
    (fun t => t.pc = 0x0602 ∧ t.peek 0x0010 = 0x7F) = true := by decide

/-- V95 of spec/95_test_vectors.md. -/
theorem test_v95_rol : after ({ machine with a := 0x40, p := { machine.p with c := true } })
    [0x2A] []
    (fun t => t.pc = 0x0601 ∧ t.a = 0x81 ∧ t.p.n = true ∧ t.p.c = false) = true := by decide

/-- V98 of spec/95_test_vectors.md. -/
theorem test_v98_rol : after ({ machine with p := { machine.p with c := true } })
    [0x26, 0x10] [(0x0010, 0xFF)]
    (fun t => t.pc = 0x0602 ∧ t.p.n = true ∧ t.peek 0x0010 = 0xFF) = true := by decide

/-- V99 of spec/95_test_vectors.md. -/
theorem test_v99_ror : after ({ machine with a := 0x02, p := { machine.p with c := true } })
    [0x6A] []
    (fun t => t.pc = 0x0601 ∧ t.a = 0x81 ∧ t.p.n = true ∧ t.p.c = false) = true := by decide

/-- V102 of spec/95_test_vectors.md. -/
theorem test_v102_ror : after ({ machine with x := 0x01, p := { machine.p with c := false } })
    [0x76, 0x0F] [(0x0010, 0x81)]
    (fun t => t.pc = 0x0602 ∧ t.p.c = true ∧ t.peek 0x0010 = 0x40) = true := by decide

/-- V103 of spec/95_test_vectors.md. -/
theorem test_v103_inc : after ({ machine with p := { machine.p with c := true } })
    [0xE6, 0x10] [(0x0010, 0xFF)]
    (fun t => t.pc = 0x0602 ∧ t.p.z = true ∧ t.peek 0x0010 = 0x00) = true := by decide

/-- V105 of spec/95_test_vectors.md. -/
theorem test_v105_inc : after ({ machine with x := 0x03, p := { machine.p with d := true } })
    [0xFE, 0x00, 0x02] [(0x0203, 0x09)]
    (fun t => t.pc = 0x0603 ∧ t.peek 0x0203 = 0x0A) = true := by decide

/-- V106 of spec/95_test_vectors.md. -/
theorem test_v106_dec : after (machine)
    [0xC6, 0x10] [(0x0010, 0x00)]
    (fun t => t.pc = 0x0602 ∧ t.p.n = true ∧ t.peek 0x0010 = 0xFF) = true := by decide

/-- V108 of spec/95_test_vectors.md. -/
theorem test_v108_dec : after ({ machine with x := 0x01 })
    [0xD6, 0x10] [(0x0011, 0x80)]
    (fun t => t.pc = 0x0602 ∧ t.peek 0x0011 = 0x7F) = true := by decide

/-! JMP, JSR -/

/-- V109 of spec/95_test_vectors.md. -/
theorem test_v109_jmp : after (machine)
    [0x4C, 0x00, 0x80] []
    (fun t => t.pc = 0x8000) = true := by decide

/-- V112 of spec/95_test_vectors.md. -/
theorem test_v112_jmp : after (machine)
    [0x6C, 0xFF, 0x02] [(0x0200, 0x12), (0x02FF, 0x34), (0x0300, 0x56)]
    (fun t => t.pc = 0x1234) = true := by decide

/-- V113 of spec/95_test_vectors.md. -/
theorem test_v113_jsr : after (machine)
    [0x20, 0x34, 0x12] []
    (fun t => t.pc = 0x1234 ∧ t.sp = 0xFD ∧ t.peek 0x01FE = 0x02 ∧ t.peek 0x01FF = 0x06) = true := by decide

/-- V115 of spec/95_test_vectors.md. -/
theorem test_v115_jsr : after ({ machine with pc := 0xFFFD })
    [0x20, 0x00, 0x90] []
    (fun t => t.pc = 0x9000 ∧ t.sp = 0xFD ∧ t.peek 0x01FE = 0xFF ∧ t.peek 0x01FF = 0xFF) = true := by decide

/-! BRK, RTS, RTI, PHP, PLP, PHA, PLA -/

/-- V119 of spec/95_test_vectors.md. -/
theorem test_v119_brk : after (machine)
    [0x00] [(0xFFFE, 0x00), (0xFFFF, 0x90)]
    (fun t => t.pc = 0x9000 ∧ t.sp = 0xFC ∧ t.p.i = true ∧ t.peek 0x01FD = 0x30 ∧ t.peek 0x01FE = 0x02 ∧ t.peek 0x01FF = 0x06) = true := by decide

/-- V120 of spec/95_test_vectors.md. -/
theorem test_v120_brk : after ({ machine with sp := 0x01, p := { machine.p with n := true, v := true, d := true, i := true, z := true, c := true } })
    [0x00] [(0xFFFE, 0x34), (0xFFFF, 0x12)]
    (fun t => t.pc = 0x1234 ∧ t.sp = 0xFE ∧ t.peek 0x0100 = 0x02 ∧ t.peek 0x0101 = 0x06 ∧ t.peek 0x01FF = 0xFF) = true := by decide

/-- V118 of spec/95_test_vectors.md. -/
theorem test_v118_rts : after ({ machine with sp := 0xFE })
    [0x60] [(0x0100, 0x20), (0x01FF, 0x10)]
    (fun t => t.pc = 0x2011 ∧ t.sp = 0x00) = true := by decide

/-- V122 of spec/95_test_vectors.md. -/
theorem test_v122_rti : after ({ machine with sp := 0xFC })
    [0x40] [(0x01FD, 0xCF), (0x01FE, 0x00), (0x01FF, 0x80)]
    (fun t => t.pc = 0x8000 ∧ t.sp = 0xFF ∧ t.p.n = true ∧ t.p.v = true ∧ t.p.d = true ∧ t.p.i = true ∧ t.p.z = true ∧ t.p.c = true) = true := by decide

/-- V124 of spec/95_test_vectors.md. -/
theorem test_v124_php : after (machine)
    [0x08] []
    (fun t => t.pc = 0x0601 ∧ t.sp = 0xFE ∧ t.peek 0x01FF = 0x30) = true := by decide

/-- V126 of spec/95_test_vectors.md. -/
theorem test_v126_plp : after ({ machine with sp := 0xFE, p := { machine.p with n := true, v := true, d := true, i := true, z := true, c := true } })
    [0x28] [(0x01FF, 0x30)]
    (fun t => t.pc = 0x0601 ∧ t.sp = 0xFF ∧ t.p.n = false ∧ t.p.v = false ∧ t.p.d = false ∧ t.p.i = false ∧ t.p.z = false ∧ t.p.c = false) = true := by decide

/-- V128 of spec/95_test_vectors.md. -/
theorem test_v128_pha : after ({ machine with a := 0x43, sp := 0x00 })
    [0x48] []
    (fun t => t.pc = 0x0601 ∧ t.sp = 0xFF ∧ t.peek 0x0100 = 0x43) = true := by decide

/-- V130 of spec/95_test_vectors.md. -/
theorem test_v130_pla : after ({ machine with a := 0x55, sp := 0xFF })
    [0x68] [(0x0100, 0x00)]
    (fun t => t.pc = 0x0601 ∧ t.a = 0x00 ∧ t.sp = 0x00 ∧ t.p.z = true) = true := by decide

/-! INX, DEX, INY, DEY, TAX, TXA, TAY, TYA, TSX, TXS, SED, CLD, SEI, CLI, SEC, CLC, CLV, NOP -/

/-- V132 of spec/95_test_vectors.md. -/
theorem test_v132_inx : after ({ machine with x := 0x7F })
    [0xE8] []
    (fun t => t.pc = 0x0601 ∧ t.x = 0x80 ∧ t.p.n = true) = true := by decide

/-- V134 of spec/95_test_vectors.md. -/
theorem test_v134_dex : after ({ machine with x := 0x00 })
    [0xCA] []
    (fun t => t.pc = 0x0601 ∧ t.x = 0xFF ∧ t.p.n = true) = true := by decide

/-- V136 of spec/95_test_vectors.md. -/
theorem test_v136_iny : after ({ machine with y := 0xFF })
    [0xC8] []
    (fun t => t.pc = 0x0601 ∧ t.y = 0x00 ∧ t.p.z = true) = true := by decide

/-- V138 of spec/95_test_vectors.md. -/
theorem test_v138_dey : after ({ machine with y := 0x01 })
    [0x88] []
    (fun t => t.pc = 0x0601 ∧ t.y = 0x00 ∧ t.p.z = true) = true := by decide

/-- V140 of spec/95_test_vectors.md. -/
theorem test_v140_tax : after ({ machine with a := 0x80 })
    [0xAA] []
    (fun t => t.pc = 0x0601 ∧ t.x = 0x80 ∧ t.p.n = true) = true := by decide

/-- V141 of spec/95_test_vectors.md. -/
theorem test_v141_txa : after ({ machine with x := 0x90 })
    [0x8A] []
    (fun t => t.pc = 0x0601 ∧ t.a = 0x90 ∧ t.p.n = true) = true := by decide

/-- V142 of spec/95_test_vectors.md. -/
theorem test_v142_tay : after ({ machine with a := 0x7F, p := { machine.p with z := true } })
    [0xA8] []
    (fun t => t.pc = 0x0601 ∧ t.y = 0x7F ∧ t.p.z = false) = true := by decide

/-- V143 of spec/95_test_vectors.md. -/
theorem test_v143_tya : after ({ machine with a := 0x11, y := 0x00 })
    [0x98] []
    (fun t => t.pc = 0x0601 ∧ t.a = 0x00 ∧ t.p.z = true) = true := by decide

/-- V145 of spec/95_test_vectors.md. -/
theorem test_v145_tsx : after ({ machine with x := 0x01, sp := 0x00 })
    [0xBA] []
    (fun t => t.pc = 0x0601 ∧ t.x = 0x00 ∧ t.p.z = true) = true := by decide

/-- V147 of spec/95_test_vectors.md. -/
theorem test_v147_txs : after ({ machine with x := 0x80, sp := 0x10 })
    [0x9A] []
    (fun t => t.pc = 0x0601 ∧ t.sp = 0x80) = true := by decide

/-- V148 of spec/95_test_vectors.md. -/
theorem test_v148_sed : after (machine)
    [0xF8] []
    (fun t => t.pc = 0x0601 ∧ t.p.d = true) = true := by decide

/-- V149 of spec/95_test_vectors.md. -/
theorem test_v149_cld : after ({ machine with p := { machine.p with d := true } })
    [0xD8] []
    (fun t => t.pc = 0x0601 ∧ t.p.d = false) = true := by decide

/-- V150 of spec/95_test_vectors.md. -/
theorem test_v150_sei : after (machine)
    [0x78] []
    (fun t => t.pc = 0x0601 ∧ t.p.i = true) = true := by decide

/-- V151 of spec/95_test_vectors.md. -/
theorem test_v151_cli : after ({ machine with p := { machine.p with i := true } })
    [0x58] []
    (fun t => t.pc = 0x0601 ∧ t.p.i = false) = true := by decide

/-- V152 of spec/95_test_vectors.md. -/
theorem test_v152_sec : after (machine)
    [0x38] []
    (fun t => t.pc = 0x0601 ∧ t.p.c = true) = true := by decide

/-- V153 of spec/95_test_vectors.md. -/
theorem test_v153_clc : after ({ machine with p := { machine.p with c := true } })
    [0x18] []
    (fun t => t.pc = 0x0601 ∧ t.p.c = false) = true := by decide

/-- V154 of spec/95_test_vectors.md. -/
theorem test_v154_clv : after ({ machine with p := { machine.p with v := true } })
    [0xB8] []
    (fun t => t.pc = 0x0601 ∧ t.p.v = false) = true := by decide

/-- V155 of spec/95_test_vectors.md. -/
theorem test_v155_nop : after ({ machine with p := { machine.p with n := true, v := true, d := true, i := true, z := true, c := true } })
    [0xEA] []
    (fun t => t.pc = 0x0601) = true := by decide

/-! BEQ, BNE, BMI, BPL, BCC, BCS, BVC, BVS -/

/-- V176 of spec/95_test_vectors.md. -/
theorem test_v176_beq : after ({ machine with pc := 0x0001, p := { machine.p with z := true } })
    [0xF0, 0xFC] []
    (fun t => t.pc = 0xFFFF) = true := by decide

/-- V173 of spec/95_test_vectors.md. -/
theorem test_v173_bne : after ({ machine with p := { machine.p with z := false } })
    [0xD0, 0x00] []
    (fun t => t.pc = 0x0602) = true := by decide

/-- V161 of spec/95_test_vectors.md. -/
theorem test_v161_bmi : after ({ machine with p := { machine.p with n := false } })
    [0x30, 0x10] []
    (fun t => t.pc = 0x0602) = true := by decide

/-- V175 of spec/95_test_vectors.md. -/
theorem test_v175_bpl : after ({ machine with p := { machine.p with n := false } })
    [0x10, 0x80] []
    (fun t => t.pc = 0x0582) = true := by decide

/-- V165 of spec/95_test_vectors.md. -/
theorem test_v165_bcc : after ({ machine with p := { machine.p with c := true } })
    [0x90, 0x04] []
    (fun t => t.pc = 0x0602) = true := by decide

/-- V167 of spec/95_test_vectors.md. -/
theorem test_v167_bcs : after ({ machine with p := { machine.p with c := false } })
    [0xB0, 0x04] []
    (fun t => t.pc = 0x0602) = true := by decide

/-- V169 of spec/95_test_vectors.md. -/
theorem test_v169_bvc : after ({ machine with pc := 0x0680, p := { machine.p with v := true } })
    [0x50, 0x80] []
    (fun t => t.pc = 0x0682) = true := by decide

/-- V171 of spec/95_test_vectors.md. -/
theorem test_v171_bvs : after ({ machine with pc := 0xFFF0, p := { machine.p with v := false } })
    [0x70, 0x7F] []
    (fun t => t.pc = 0xFFF2) = true := by decide

/-! ### Every statement with hypotheses has a case that meets them -/

/-- The default state with one boundary input scripted: the IRQ level, an NMI edge, a RESET request, `takeNow`,
`brkNmi`. -/
def withInput (s : State) (irq nmi reset takeNow brk : Bool) : State :=
  { s with inputs := [⟨irq, nmi, reset, false, takeNow, brk⟩] }

/-- The default state with I set. -/
def masked : State := { machine with p := { machine.p with i := true } }

/-- The default state with D set. -/
def decimal : State := { machine with p := { machine.p with d := true } }

/-- ROM at 0xE000 and up, a device at 0xD000 with read side effects, another at 0xD001 without, nothing at 0xC000. -/
def mapped : State :=
  { machine with memMap := [⟨0xE000, 0xFFFF, .rom⟩, ⟨0xD000, 0xD000, .device true⟩, ⟨0xD001, 0xD001, .device false⟩,
      ⟨0xC000, 0xC0FF, .absent⟩] }

/-- The first and the last undefined byte, at the first and the last address. -/
theorem witness_UndefinedOpcodesFault :
    ((load machine [0x02] []).boundaryEvent = .instruction ∧
      ((load machine [0x02] []).sampled.beginInstruction.memRead 0x0600).1 ∈ undefinedOpcodes) ∧
    ((load { machine with pc := 0xFFFF } [0xFF] []).boundaryEvent = .instruction ∧
      ((load { machine with pc := 0xFFFF } [0xFF] []).sampled.beginInstruction.memRead 0xFFFF).1 ∈
        undefinedOpcodes) := by decide

/-- One, two and three bytes, the last across the end of the address space. -/
theorem witness_StepRunsDecodedInstruction :
    ((load machine [0xEA] []).boundaryEvent = .instruction ∧
      (∀ k < 1, Stored (load machine [0xEA] []) (0x0600 + BitVec.ofNat 16 k)) ∧
      decode [0xEA, 0x00, 0x00] = .ok (.nop, [0x00, 0x00])) ∧
    ((load machine [0xA9, 0x10, 0x00] []).boundaryEvent = .instruction ∧
      (∀ k < 2, Stored (load machine [0xA9, 0x10, 0x00] []) (0x0600 + BitVec.ofNat 16 k)) ∧
      decode [(load machine [0xA9, 0x10, 0x00] []).peek 0x0600, (load machine [0xA9, 0x10, 0x00] []).peek 0x0601,
        (load machine [0xA9, 0x10, 0x00] []).peek 0x0602] = .ok (.ldaImm 0x10, [0x00])) ∧
    (let s := load { machine with pc := 0xFFFE } [0x8D, 0x34, 0x12] []
     s.boundaryEvent = .instruction ∧ (∀ k < 3, Stored s (s.pc + BitVec.ofNat 16 k)) ∧
      decode [s.peek s.pc, s.peek (s.pc + 1), s.peek (s.pc + 2)] = .ok (.staAbs 0x1234, [])) :=
  ⟨⟨rfl, fun _ _ => .inl rfl, rfl⟩, ⟨rfl, fun _ _ => .inl rfl, rfl⟩, rfl, fun _ _ => .inl rfl, rfl⟩

theorem witness_FetchOnlyReads :
    ∃ t, (load machine [0xAD, 0x34, 0x12] []).boundaryEvent = .instruction ∧
      (load machine [0xAD, 0x34, 0x12] []).sampled.beginInstruction.fetchDecode = .ok (.ldaAbs 0x1234, t) :=
  ⟨_, rfl, rfl⟩

/-- JSR whose third byte is each of the two stack bytes it would write, and one that is clear of both; the same three
cases meet both clauses of JsrResult. -/
theorem witness_OnlyJsrCanFault :
    ((0x01FD : Word) + 2 = stackAddr 0xFF ∧ (0x01FC : Word) + 2 = stackAddr (0xFF - 1)) ∧
    ¬ (machine.pc + 2 = stackAddr machine.sp ∨ machine.pc + 2 = stackAddr (machine.sp - 1)) := by decide

theorem test_jsr_clash_faults :
    exec (.jsr 0x1234) { machine with pc := 0x01FD } = .fault .jsrOperandOnStack ∧
    exec (.jsr 0x1234) { machine with pc := 0x01FC } = .fault .jsrOperandOnStack :=
  ⟨rfl, rfl⟩

/-- A state with an NMI held back, an instruction to run and ROM in its map meets the hypotheses of the invariants. -/
theorem witness_StepKeepsInvariant :
    ∃ t, ({ load machine [0x8D, 0x34, 0x12] [] with nmiPending := true, nmiHeld := true } : State).Inv ∧
      step { load machine [0x8D, 0x34, 0x12] [] with nmiPending := true, nmiHeld := true } = .next t :=
  ⟨_, ⟨by decide, fun _ => rfl⟩, rfl⟩

theorem witness_RomAndMapNeverChange :
    ∃ t, step { mapped with mem := (load machine [0x8D, 0x00, 0xE0] []).mem } = .next t ∧
      mapped.kindAt 0xE000 ≠ .ram ∧ mapped.kindAt 0xD000 ≠ .ram ∧ mapped.kindAt 0xC0FF ≠ .ram :=
  ⟨_, rfl, by decide, by decide, by decide⟩

theorem witness_MemoryChangesOnlyAtStores :
    ∃ t, exec (.incAbsx 0x1234) machine = .next t ∧
      (0x1233 : Word) ∉ storesTo (.incAbsx 0x1234) machine ∧ (0x1234 : Word) ∈ storesTo (.incAbsx 0x1234) machine :=
  ⟨_, rfl, by decide, by decide⟩

/-- A store and an interrupt entry, each changing a byte that was written before (a reset in the middle of a store changes
one to a free value, of which nothing can be decided). -/
theorem witness_StepMemoryFrame :
    (∃ t, step (load machine [0xE6, 0x10] [(0x0010, 0x00)]) = .next t ∧
      t.peek 0x0010 ≠ (load machine [0xE6, 0x10] [(0x0010, 0x00)]).peek 0x0010) ∧
    (∃ t, step (withInput (load machine [] [(0x01FF, 0x00)]) false true false true false) = .next t ∧
      t.peek 0x01FF ≠ (withInput (load machine [] [(0x01FF, 0x00)]) false true false true false).peek 0x01FF) :=
  ⟨⟨_, rfl, by decide⟩, ⟨_, rfl, by decide⟩⟩

theorem witness_OtherInstructionsAdvancePc :
    ∃ t, writesPc (Instr.mnemonic .nop) = false ∧ exec .nop { machine with pc := 0xFFFF } = .next t ∧ t.pc = 0x0000 :=
  ⟨_, rfl, rfl, rfl⟩

/-- STA leaves every flag and every register. -/
theorem witness_UnlistedFlagsUnchanged :
    ∃ t, exec (.staZp 0x10) machine = .next t ∧ flagsWritten .sta = ⟨false, false, false, false, false, false⟩ :=
  ⟨_, rfl, rfl⟩

theorem witness_UnlistedRegistersUnchanged :
    ∃ t, exec .pha machine = .next t ∧ writesA .pha = false ∧ writesX .pha = false ∧ writesY .pha = false ∧
      Instr.mnemonic .pha ≠ .txs :=
  ⟨_, rfl, rfl, rfl, rfl, by decide⟩

/-- CLI and a BRK that nothing captures, which keep the latch, and a BRK that the pending NMI captures. -/
theorem witness_InputsUntouchedByInstructions :
    (∃ t, exec .cli masked = .next t ∧ ¬ Captured .cli masked ∧ Instr.mnemonic .cli ≠ .sei ∧
      Instr.mnemonic .cli ≠ .plp) ∧
    (∃ t, exec .brk { masked with nmiPending := true } = .next t ∧ ¬ Captured .brk { masked with nmiPending := true }) ∧
    ∃ t, exec .brk { masked with nmiPending := true, brkNmi := true } = .next t ∧
      Captured .brk { masked with nmiPending := true, brkNmi := true } :=
  ⟨⟨_, rfl, by simp [Captured, Instr.mnemonic], by decide, by decide⟩,
   ⟨_, rfl, by simp [Captured, masked, machine, State.reset]⟩, _, rfl, rfl, rfl, rfl⟩

theorem witness_DecimalModeAffectsOnlyAdcSbc : usesD (Instr.mnemonic (.cmpImm 0x10)) = false := rfl

/-- RAM, ROM, absent at both ends of its region, both kinds of device. -/
theorem witness_MemReadFollowsMap :
    mapped.kindAt 0x0000 = .ram ∧ mapped.kindAt 0xE000 = .rom ∧ mapped.kindAt 0xC000 = .absent ∧
    mapped.kindAt 0xC0FF = .absent ∧ mapped.kindAt 0xC100 = .ram ∧ mapped.kindAt 0xD001 = .device false ∧
    mapped.kindAt 0xD000 = .device true ∧ mapped.kindAt 0xFFFF = .rom := by decide

theorem witness_MemWriteFollowsMap :
    mapped.kindAt 0xDFFF = .ram ∧ mapped.kindAt 0xE000 = .rom ∧
    mapped.kindAt 0xBFFF = .ram ∧ mapped.kindAt 0xC000 = .absent ∧ mapped.kindAt 0xD000 = .device true := by decide

/-- A NOP at 0x0600 and its opcode in A, to be stored. -/
def storing : State := { machine with a := 0xEA, mem := [(0x0600, 0xEA)] }

/-- An operand store, a push and an entry byte, with a further step that leaves the byte. -/
theorem witness_StoreIsSeenByNextFetch :
    (∃ t u, exec (.staZp 0x10) { storing with pc := 0x05FE } = .next t ∧
      (0x0010, 0xEA) ∈ storedBytes (.staZp 0x10) { storing with pc := 0x05FE } ∧
      storing.kindAt 0x0010 = .ram ∧ step t = .next u ∧ (0x0010 : Word) ∉ stepStores t) ∧
    (0x01FF, 0xEA) ∈ storedBytes .pha storing ∧ storing.kindAt 0x01FF = .ram ∧
    (∃ t, (withInput machine false true false true false).boundaryEvent = .nmi ∧
      step (withInput machine false true false true false) = .next t ∧
      (0x01FF, 0x06) ∈ entryBytes (withInput machine false true false true false)) :=
  ⟨⟨_, _, rfl, by decide, rfl, rfl, by decide⟩, by decide, rfl, _, rfl, rfl, by decide⟩

/-- The first and the last of the mnemonics with an immediate form. -/
theorem witness_EffectiveAddresses :
    (Instr.stxZpy 0x10).operand.mode = .zpy ∧ (Instr.ldxZpy 0xFF).operand.mode = .zpy ∧
    (Instr.ldaImm 0x00).operand.mode = .imm ∧ (Instr.sbcImm 0xFF).operand.mode = .imm := by decide

theorem witness_LoadResults :
    Instr.operand (.ldaImm 0x00) = .data (.imm 0x00) ∧ Instr.mnemonic (.ldaImm 0x00) = .lda ∧
    Instr.operand (.ldxZpy 0x10) = .data (.mem (.zpy 0x10)) ∧ Instr.mnemonic (.ldxZpy 0x10) = .ldx ∧
    Instr.operand (.ldyAbsx 0xFFFF) = .data (.mem (.absx 0xFFFF)) ∧ Instr.mnemonic (.ldyAbsx 0xFFFF) = .ldy := by decide

theorem witness_StoreResults :
    Instr.operand (.staIndy 0xFF) = .data (.mem (.indy 0xFF)) ∧ Instr.mnemonic (.staIndy 0xFF) = .sta ∧
    Instr.mnemonic (.stxZp 0x00) = .stx ∧ Instr.mnemonic (.styAbs 0x0000) = .sty ∧ 
    machine.kindAt (effAddr (.indy 0xFF) (machine.advance 2)).1 = .ram := by decide

theorem witness_LogicalResults :
    Instr.operand (.andImm 0x0F) = .data (.imm 0x0F) ∧ Instr.mnemonic (.andImm 0x0F) = .and ∧
    Instr.mnemonic (.oraZp 0x00) = .ora ∧ Instr.mnemonic (.eorIndx 0xFF) = .eor := by decide

theorem witness_BitResult :
    Instr.mnemonic (.bitAbs 0xFFFF) = .bit ∧ Instr.operand (.bitAbs 0xFFFF) = .data (.mem (.abs 0xFFFF)) ∧
    Instr.mnemonic .nop ∉ [.bit, .adc, .sbc, .clv, .plp, .rti] ∧ ∃ t, exec .nop machine = .next t :=
  ⟨rfl, rfl, by decide, _, rfl⟩

theorem witness_CompareResults :
    Instr.operand (.cmpImm 0x80) = .data (.imm 0x80) ∧ Instr.mnemonic (.cmpImm 0x80) = .cmp ∧
    Instr.mnemonic (.cpxImm 0x00) = .cpx ∧ Instr.mnemonic (.cpyZp 0xFF) = .cpy := by decide

/-- Binary; decimal with BCD operands, the largest and the smallest; decimal with an operand that is not BCD. -/
theorem witness_AdcSbcResults :
    (Instr.operand (.adcImm 0x99) = .data (.imm 0x99) ∧ machine.p.d = false ∧ Instr.mnemonic (.adcImm 0x99) = .adc ∧
      Instr.mnemonic (.sbcImm 0x99) = .sbc ∧ (0x66 : Byte) = 0x99 ^^^ 0xFF#8) ∧
    (decimal.p.d = true ∧ BcdByte 0x99 ∧ BcdByte 0x00 ∧ ¬ BcdByte 0x9A ∧ ¬ BcdByte 0xA0) := by
  unfold BcdByte
  decide

theorem witness_DecimalSumIsArithmetic : isBcd 0x99 = true ∧ isBcd 0x00 = true ∧ isBcd 0x90 = true := by decide

theorem witness_DecimalDifferenceIsArithmetic : isBcd 0x00 = true ∧ isBcd 0x99 = true ∧ isBcd 0x09 = true := by decide

/-- An ACCUM. form and a memory form of each clause, at the byte whose shift carries out. -/
theorem witness_ShiftIncDecResults :
    (Instr.operand .aslAcc = .acc ∧ Instr.mnemonic .aslAcc = .asl ∧ (0x02 : Byte) = BitVec.ofNat 8 (2 * 0x81) ∧
      Instr.mnemonic .lsrAcc = .lsr ∧ Instr.mnemonic .rolAcc = .rol ∧ Instr.mnemonic .rorAcc = .ror) ∧
    (Instr.operand (.rorZp 0x10) = .data (.mem (.zp 0x10)) ∧ Instr.mnemonic (.rorZp 0x10) = .ror ∧
      Instr.mnemonic (.aslAbsx 0x0000) = .asl ∧ Instr.mnemonic (.lsrZpx 0xFF) = .lsr ∧
      Instr.mnemonic (.rolAbs 0x0000) = .rol ∧ Instr.mnemonic (.incZp 0x00) = .inc ∧
      Instr.mnemonic (.decZp 0x00) = .dec ∧ (0x00 : Byte) = BitVec.ofNat 8 (0xFF + 1) ∧
      (0xFF : Byte) = BitVec.ofNat 8 (0x00 + 255) ∧ 
    machine.kindAt (effAddr (.zp 0x10) (machine.advance 2)).1 = .ram) := by decide

/-- Both clauses of JsrResult, the second with a RAM stack and S at 0, where the second push wraps. -/
theorem witness_JsrResult :
    ((0x01FD : Word) + 2 = stackAddr 0xFF) ∧
    ¬ (machine.pc + 2 = stackAddr 0x00 ∨ machine.pc + 2 = stackAddr (0x00 - 1)) ∧ 
    machine.kindAt (stackAddr 0x00) = .ram ∧ machine.kindAt (stackAddr (0x00 - 1)) = .ram := by decide

theorem witness_JsrThenRtsResumes :
    machine.kindAt (stackAddr machine.sp) = .ram ∧
    machine.kindAt (stackAddr (machine.sp - 1)) = .ram ∧ machine.pc + 2 ≠ stackAddr machine.sp ∧
    machine.pc + 2 ≠ stackAddr (machine.sp - 1) := by decide

theorem witness_PushAndPull :
    machine.kindAt (stackAddr 0x00) = .ram ∧ machine.kindAt (stackAddr 0xFF) = .ram := by decide

/-- A state whose stack wraps inside page 1 and whose vectors are ROM. -/
def trapped : State := { mapped with sp := 0x01 }

theorem witness_BrkResult :
    (trapped.nmiPending && trapped.brkNmi) = false ∧ StackRam trapped ∧
    Stored trapped 0xFFFE ∧ Stored trapped 0xFFFF :=
  ⟨rfl, ⟨rfl, rfl, rfl⟩, .inr rfl, .inr rfl⟩

theorem witness_BrkCapturedByNmi :
    (({ trapped with nmiPending := true, brkNmi := true } : State).nmiPending &&
      ({ trapped with nmiPending := true, brkNmi := true } : State).brkNmi) = true ∧
    StackRam { trapped with nmiPending := true, brkNmi := true } ∧
    Stored { trapped with nmiPending := true, brkNmi := true } 0xFFFA ∧
    Stored { trapped with nmiPending := true, brkNmi := true } 0xFFFB :=
  ⟨rfl, ⟨rfl, rfl, rfl⟩, .inr rfl, .inr rfl⟩

/-- An NMI taken on its edge, and an IRQ taken with I = 0. -/
theorem witness_InterruptEntryResults :
    ((withInput trapped false true false true false).boundaryEvent = .nmi ∧
      StackRam (withInput trapped false true false true false) ∧
      Stored (withInput trapped false true false true false) 0xFFFA) ∧
    ((withInput trapped true false false true false).boundaryEvent = .irq ∧
      StackRam (withInput trapped true false false true false) ∧
      Stored (withInput trapped true false false true false) 0xFFFF ∧
      Stored (withInput trapped true false false true false) 0xFFFE) :=
  ⟨⟨rfl, ⟨rfl, rfl, rfl⟩, .inr rfl⟩, rfl, ⟨rfl, rfl, rfl⟩, .inr rfl, .inr rfl⟩

theorem witness_HandlerTellsBrkFromIrq :
    StackRam machine ∧ (∃ t, exec .brk machine = .next t) ∧
    StackRam (withInput machine true false false true false) ∧
    (withInput machine true false false true false).boundaryEvent = .irq ∧
    ∃ t, step (withInput machine true false false true false) = .next t :=
  ⟨⟨rfl, rfl, rfl⟩, ⟨_, rfl⟩, ⟨rfl, rfl, rfl⟩, rfl, ⟨_, rfl⟩⟩

theorem witness_EntryThenRtiResumes :
    StackRam (withInput machine true false false true false) ∧
    (withInput machine true false false true false).boundaryEvent = .irq ∧
    (withInput machine false true false true false).boundaryEvent = .nmi :=
  ⟨⟨rfl, rfl, rfl⟩, rfl, rfl⟩

theorem witness_BrkThenRtiResumes : StackRam machine :=
  ⟨rfl, rfl, rfl⟩

/-- Each of the six clauses of the priority, and the fairness alternatives of the second and fourth. -/
theorem witness_BoundaryPriority :
    (withInput machine true true true true false).boundaryInput.resetRequest = true ∧
    (withInput machine true true false true false).boundaryEvent = .nmi ∧
    ({ withInput machine false false false false false with nmiPending := true, nmiHeld := true } : State).boundaryEvent
      = .nmi ∧
    (withInput machine true true false false false).boundaryEvent = .instruction ∧
    (withInput machine true false false true false).boundaryEvent = .irq ∧
    ({ withInput machine true false false false false with irqHeld := true } : State).boundaryEvent = .irq ∧
    (withInput machine true false false false false).boundaryEvent = .instruction ∧
    ({ withInput masked true false false false false with irqHeld := true, irqLate := true } : State).boundaryEvent
      = .instruction ∧
    (withInput masked true false false true false).boundaryEvent = .instruction ∧
    (withInput machine false false false true false).boundaryEvent = .instruction := by decide

/-- The clause on a masked state; an instruction run right after an SEI; the three kinds of step that run none. -/
theorem witness_IrqMaskedByI :
    (masked.p.i = true ∧ masked.irqLate = false ∧
      (withInput masked true true false true false).boundaryInput.resetRequest = false ∧
      (withInput masked true true false true false).boundaryInput.nmiEdge = true ∧
      (withInput masked true true false true false).boundaryInput.takeNow = true) ∧
    (∃ t u, ({ load masked [0xEA] [] with irqLate := true } : State).boundaryEvent = .instruction ∧
      ({ load masked [0xEA] [] with irqLate := true } : State).sampled.beginInstruction.fetchDecode = .ok (.nop, u) ∧
      step { load masked [0xEA] [] with irqLate := true } = .next t ∧ t.p.i = true) ∧
    (∃ t, (withInput { machine with irqLate := true } true false false true false).boundaryEvent = .irq ∧
      step (withInput { machine with irqLate := true } true false false true false) = .next t ∧ t.p.i = true) ∧
    (∃ t, (withInput { machine with irqLate := true } true true false true false).boundaryEvent = .nmi ∧
      step (withInput { machine with irqLate := true } true true false true false) = .next t ∧ t.p.i = true) ∧
    ∃ t, (withInput { machine with irqLate := true } true true true true false).boundaryEvent = .reset ∧
      step (withInput { machine with irqLate := true } true true true true false) = .next t ∧ t.p.i = true :=
  ⟨by decide, ⟨_, _, rfl, rfl, rfl, rfl⟩, ⟨_, rfl, rfl, rfl⟩, ⟨_, rfl, rfl, rfl⟩, _, rfl, rfl, rfl⟩

/-- SEI from I = 0 with both choices, and PLP of a byte with I = 1 from I = 1. -/
theorem witness_IrqStillAdmittedAfterSeiOrPlp :
    (∃ t, exec .sei (withInput machine true false false true false) = .next t ∧ t.boundaryInput.irqLine = true ∧
      t.boundaryInput.resetRequest = false ∧ t.sampled.nmiPending = false ∧ t.boundaryInput.takeNow = true) ∧
    (∃ t, exec .sei (withInput machine true false false false false) = .next t ∧
      t.boundaryInput.takeNow = false ∧ t.irqHeld = false ∧ t.sampled.nmiPending = false) ∧
    (∃ t, exec .plp { withInput masked true false false true false with mem := [(0x0100, 0x04)] } = .next t ∧
      t.boundaryInput.irqLine = true ∧ t.sampled.nmiPending = false ∧ t.p.i = true) :=
  ⟨⟨_, rfl, rfl, rfl, rfl, rfl⟩, ⟨_, rfl, rfl, rfl, rfl⟩, ⟨_, rfl, by decide, by decide, by decide⟩⟩

/-- An edge at a boundary that runs a NOP, and one at a boundary that runs a BRK which it captures. -/
theorem witness_PendingNmiTakenWithinTwoBoundaries :
    (∃ t u, (withInput (load machine [0xEA] []) false true false false false).boundaryEvent = .instruction ∧
      (withInput (load machine [0xEA] []) false true false false false).sampled.beginInstruction.fetchDecode
        = .ok (.nop, u) ∧
      ¬ Captured .nop (withInput (load machine [0xEA] []) false true false false false).sampled ∧
      (withInput (load machine [0xEA] []) false true false false false).sampled.nmiPending = true ∧
      step (withInput (load machine [0xEA] []) false true false false false) = .next t ∧ t.nmiPending = true ∧
      t.boundaryInput.resetRequest = false) ∧
    ∃ t u, (withInput (load machine [0x00] []) false true false false true).boundaryEvent = .instruction ∧
      (withInput (load machine [0x00] []) false true false false true).sampled.beginInstruction.fetchDecode
        = .ok (.brk, u) ∧
      Captured .brk (withInput (load machine [0x00] []) false true false false true).sampled ∧
      step (withInput (load machine [0x00] []) false true false false true) = .next t :=
  ⟨⟨_, _, rfl, rfl, by simp [Captured, Instr.mnemonic], rfl, rfl, rfl, rfl⟩, _, _, rfl, rfl, ⟨rfl, rfl, rfl⟩, rfl⟩

theorem witness_HeldIrqTakenWithinTwoBoundaries :
    ∃ t, (withInput (load machine [0xEA] []) true false false false false).boundaryEvent = .instruction ∧
      (withInput (load machine [0xEA] []) true false false false false).boundaryInput.irqLine = true ∧
      step (withInput (load machine [0xEA] []) true false false false false) = .next t ∧
      t.boundaryInput.irqLine = true ∧ t.p.i = false ∧ t.boundaryInput.resetRequest = false ∧
      t.sampled.nmiPending = false :=
  ⟨_, rfl, rfl, rfl, rfl, rfl, rfl, rfl⟩

theorem witness_ResetStepResult :
    (withInput machine false false true false false).boundaryInput.resetRequest = true ∧
    (withInput machine false false true false false).boundaryInput.resetInside = false ∧
    Stored (withInput machine false false true false false) 0xFFFC ∧
    Stored (withInput machine false false true false false) 0xFFFD :=
  ⟨rfl, rfl, .inl rfl, .inl rfl⟩

/-- A RESET in the middle of a store to RAM. -/
def interrupted : State :=
  { mapped with
    mem := (load machine [0x85, 0x10] []).mem
    inputs := [⟨false, false, true, true, true, false⟩] }

theorem witness_AbandonedStoresAreFree :
    ∃ u v, interrupted.boundaryInput.resetRequest = true ∧
      interrupted.boundaryInput.resetInside = true ∧ interrupted.sampled.fetchDecode = .ok (.staZp 0x10, u) ∧
      exec (.staZp 0x10) u = .next v ∧ (0x0010 : Word) ∈ storesTo (.staZp 0x10) u ∧ interrupted.kindAt 0x0010 = .ram ∧
      (0x0011 : Word) ∉ storesTo (.staZp 0x10) u :=
  ⟨_, _, rfl, rfl, rfl, rfl, by decide, rfl, by decide⟩

/-- Taken and not taken, at the ends of the displacement. -/
theorem witness_BranchResults :
    Instr.operand (.beq 0x80) = .rel 0x80 ∧ branchCondition machine.p (Instr.mnemonic (.beq 0x80)) = some false ∧
    branchCondition machine.p (Instr.mnemonic (.bne 0x7F)) = some true ∧
    branchCondition machine.p (Instr.mnemonic (.bvs 0x00)) = some false := by decide

theorem witness_CycleAdjustments :
    Instr.mnemonic (.ldaAbsx 0x12FF) ∈ [.lda, .ldx, .ldy, .and, .ora, .eor, .cmp, .adc, .sbc] ∧
    Instr.mnemonic (.staAbsx 0x12FF) ∉ [.lda, .ldx, .ldy, .and, .ora, .eor, .cmp, .adc, .sbc] ∧
    (Instr.operand (.staAbsx 0x12FF)).mode ≠ .rel ∧ (Instr.operand (.beq 0x00)).mode = .rel := by decide

/-- The cycle counts of R275 and R276 at a page that is crossed and one that is not. -/
theorem test_cycles :
    cycles (.ldaAbsx 0x12FF) { machine with x := 0x01 } = 5 ∧ cycles (.ldaAbsx 0x12FF) machine = 4 ∧
    cycles (.staAbsx 0x12FF) { machine with x := 0x01 } = 5 ∧ cycles .brk machine = 7 := by decide

/-! ### Reset, the memory map, placing a program -/

/-- After reset I = 1, `nmi_pending` = 0 and PC is the word at 0xFFFC, whose bytes nothing has written (R37, R270). -/
theorem test_reset :
    State.reset.p.i = true ∧ State.reset.nmiPending = false ∧
    State.reset.pc = Config.powerOnByte 0xFFFD ++ Config.powerOnByte 0xFFFC := ⟨rfl, rfl, rfl⟩

/-- A program's instruction placed after reset is the first to run. -/
theorem test_with_fetch_word :
    ∃ t, step (State.reset.withFetchWord 16 0x42A9) = .next t ∧ t.a = 0x42 ∧ t.pc = 0x0002 :=
  ⟨_, rfl, rfl, rfl⟩

/-- A write to ROM changes nothing and a write to a device is an event (R53). -/
theorem test_map_writes :
    mapped.memWrite 0xE000 0x55 = mapped ∧ (mapped.memWrite 0xD000 0x55).events = [.write 0xD000 0x55] := by decide

/-- A write keeps the addresses in order and replaces a listed byte. -/
theorem test_memory_canonical :
    Memory.write [(0x10, 0x01), (0x20, 0x02)] 0x10 0x00 = [(0x10, 0x00), (0x20, 0x02)] ∧
    Memory.write [(0x10, 0x01)] 0x08 0x07 = [(0x08, 0x07), (0x10, 0x01)] := by decide

/-- A byte that nothing has written loads as its free byte (R37). -/
theorem test_unwritten_byte_is_free :
    ∃ t, step (load machine [0xAD, 0x34, 0x12] []) = .next t ∧ t.a = Config.powerOnByte 0x1234 := ⟨_, rfl, rfl⟩

/-- V181: an undefined opcode faults with its byte and address (R95). -/
theorem test_undefined_opcode_faults :
    step (load machine [0x02] []) = .fault (.undefinedOpcode 0x02 0x0600) := rfl

end Sys2Proof.Tests
end

section
/-! SUPPORT. What executing an instruction answers, said once by families of instructions: every proof about `exec`
splits along these cases, and each case names the shared meaning that runs and what the instruction is. -/

namespace Sys2Proof.Machine

/-- The answer of `exec`, one case for each family of instructions that share a meaning. Where a family has several
mnemonics, the case lists each of them with what it makes of the shared meaning. -/
inductive ExecCase (i : Instr) (s : State) : Result → Prop where
  | lda (src : Source) (hm : i.mnemonic = .lda) (ho : i.operand = .data src) : ExecCase i s (.next (opLda src s))
  | ldx (src : Source) (hm : i.mnemonic = .ldx) (ho : i.operand = .data src) : ExecCase i s (.next (opLdx src s))
  | ldy (src : Source) (hm : i.mnemonic = .ldy) (ho : i.operand = .data src) : ExecCase i s (.next (opLdy src s))
  | sta (m : MemForm) (hm : i.mnemonic = .sta) (ho : i.operand = .data (.mem m)) : ExecCase i s (.next (opSta m s))
  | stx (m : MemForm) (hm : i.mnemonic = .stx) (ho : i.operand = .data (.mem m)) : ExecCase i s (.next (opStx m s))
  | sty (m : MemForm) (hm : i.mnemonic = .sty) (ho : i.operand = .data (.mem m)) : ExecCase i s (.next (opSty m s))
  | logic (f : Byte → Byte → Byte) (src : Source)
      (hm : (i.mnemonic, f) ∈ [(.and, (· &&& ·)), (.ora, (· ||| ·)), (.eor, (· ^^^ ·))])
      (ho : i.operand = .data src) : ExecCase i s (.next (opLogic f src s))
  | bit (m : MemForm) (hm : i.mnemonic = .bit) (ho : i.operand = .data (.mem m)) : ExecCase i s (.next (opBit m s))
  | compare (reg : Byte) (src : Source) (hm : (i.mnemonic, reg) ∈ [(.cmp, s.a), (.cpx, s.x), (.cpy, s.y)])
      (ho : i.operand = .data src) : ExecCase i s (.next (opCompare reg src s))
  | adc (src : Source) (hm : i.mnemonic = .adc) (ho : i.operand = .data src) : ExecCase i s (.next (opAdc src s))
  | sbc (src : Source) (hm : i.mnemonic = .sbc) (ho : i.operand = .data src) : ExecCase i s (.next (opSbc src s))
  | shiftAcc (f : Byte → Byte) (out : Byte → Bool)
      (hm : (i.mnemonic, f, out) ∈ [(.asl, shiftLeft, bit7), (.lsr, shiftRight, bit0),
        (.rol, rotateLeft s.p.c, bit7), (.ror, rotateRight s.p.c, bit0)])
      (ho : i.operand = .acc) : ExecCase i s (.next (opShift f out .acc s))
  | shiftMem (f : Byte → Byte) (out : Byte → Bool) (m : MemForm)
      (hm : (i.mnemonic, f, out) ∈ [(.asl, shiftLeft, bit7), (.lsr, shiftRight, bit0),
        (.rol, rotateLeft s.p.c, bit7), (.ror, rotateRight s.p.c, bit0)])
      (ho : i.operand = .data (.mem m)) : ExecCase i s (.next (opShift f out (.mem m) s))
  | incDec (f : Byte → Byte) (m : MemForm) (hm : (i.mnemonic, f) ∈ [(.inc, (· + 1)), (.dec, (· - 1))])
      (ho : i.operand = .data (.mem m)) : ExecCase i s (.next (opIncDec f m s))
  | jmpAbs (target : Word) (hm : i.mnemonic = .jmp) (ho : i.operand = .data (.mem (.abs target))) :
      ExecCase i s (.next ((s.advance 3).setPc target))
  | jmpInd (ptr : Word) (hm : i.mnemonic = .jmp) (ho : i.operand = .ind ptr) :
      ExecCase i s (.next ((indirectTarget ptr (s.advance 3)).2.setPc (indirectTarget ptr (s.advance 3)).1))
  | jsrFault (target : Word) (hm : i.mnemonic = .jsr) (ho : i.operand = .data (.mem (.abs target)))
      (hc : jsrHitsOperand (s.pc + 2) s.sp = true) : ExecCase i s (.fault .jsrOperandOnStack)
  | jsr (target : Word) (hm : i.mnemonic = .jsr) (ho : i.operand = .data (.mem (.abs target)))
      (hc : jsrHitsOperand (s.pc + 2) s.sp = false) : ExecCase i s (.next (opJsr target s))
  | brk (hm : i.mnemonic = .brk) (ho : i.operand = .imp) :
      ExecCase i s (.next ((s.advance 1).takeException (s.pc + 2) true (brkVector s)))
  | rts (hm : i.mnemonic = .rts) (ho : i.operand = .imp) :
      ExecCase i s (.next ((s.advance 1).pullWord.2.setPc ((s.advance 1).pullWord.1 + 1)))
  | rti (hm : i.mnemonic = .rti) (ho : i.operand = .imp) : ExecCase i s (.next (s.advance 1).returnFromException)
  | php (hm : i.mnemonic = .php) (ho : i.operand = .imp) :
      ExecCase i s (.next ((s.advance 1).push (statusByte s.p true)))
  | plp (hm : i.mnemonic = .plp) (ho : i.operand = .imp) :
      ExecCase i s (.next (lateIrq s.p.i ((s.advance 1).pull.2.setP (setStatus (s.advance 1).pull.1))))
  | pha (hm : i.mnemonic = .pha) (ho : i.operand = .imp) : ExecCase i s (.next ((s.advance 1).push s.a))
  | pla (hm : i.mnemonic = .pla) (ho : i.operand = .imp) :
      ExecCase i s (.next (((s.advance 1).pull.2.setA (s.advance 1).pull.1).setNZ (s.advance 1).pull.1))
  | toX (v : Byte) (hm : (i.mnemonic, v) ∈ [(.inx, s.x + 1), (.dex, s.x - 1), (.tax, s.a), (.tsx, s.sp)])
      (ho : i.operand = .imp) : ExecCase i s (.next (((s.advance 1).setX v).setNZ v))
  | toY (v : Byte) (hm : (i.mnemonic, v) ∈ [(.iny, s.y + 1), (.dey, s.y - 1), (.tay, s.a)])
      (ho : i.operand = .imp) : ExecCase i s (.next (((s.advance 1).setY v).setNZ v))
  | toA (v : Byte) (hm : (i.mnemonic, v) ∈ [(.txa, s.x), (.tya, s.y)])
      (ho : i.operand = .imp) : ExecCase i s (.next (((s.advance 1).setA v).setNZ v))
  | txs (hm : i.mnemonic = .txs) (ho : i.operand = .imp) : ExecCase i s (.next ((s.advance 1).setSp s.x))
  | flag (q : Status)
      (hm : (i.mnemonic, q) ∈ [(.sed, { s.p with d := true }), (.cld, { s.p with d := false }),
        (.cli, { s.p with i := false }), (.sec, { s.p with c := true }), (.clc, { s.p with c := false }),
        (.clv, { s.p with v := false })])
      (ho : i.operand = .imp) : ExecCase i s (.next ((s.advance 1).setP q))
  | sei (hm : i.mnemonic = .sei) (ho : i.operand = .imp) :
      ExecCase i s (.next (lateIrq s.p.i ((s.advance 1).setP { s.p with i := true })))
  | nop (hm : i.mnemonic = .nop) (ho : i.operand = .imp) : ExecCase i s (.next (s.advance 1))
  | branch (cond : Bool) (disp : Byte)
      (hm : (i.mnemonic, cond) ∈ [(.beq, s.p.z), (.bne, !s.p.z), (.bmi, s.p.n), (.bpl, !s.p.n), (.bcc, !s.p.c),
        (.bcs, s.p.c), (.bvc, !s.p.v), (.bvs, s.p.v)])
      (ho : i.operand = .rel disp) : ExecCase i s (.next (opBranch cond disp s))

/-- Every execution is one of the cases: each arm of `exec` is its family's meaning. -/
theorem exec_case (i : Instr) (s : State) : ExecCase i s (exec i s) := by
  cases i with
  | ldaImm | ldaZp | ldaZpx | ldaAbs | ldaAbsx | ldaAbsy | ldaIndx | ldaIndy => exact .lda _ rfl rfl
  | ldxImm | ldxZp | ldxZpy | ldxAbs | ldxAbsy => exact .ldx _ rfl rfl
  | ldyImm | ldyZp | ldyZpx | ldyAbs | ldyAbsx => exact .ldy _ rfl rfl
  | staZp | staZpx | staAbs | staAbsx | staAbsy | staIndx | staIndy => exact .sta _ rfl rfl
  | stxZp | stxZpy | stxAbs => exact .stx _ rfl rfl
  | styZp | styZpx | styAbs => exact .sty _ rfl rfl
  | andImm | andZp | andZpx | andAbs | andAbsx | andAbsy | andIndx | andIndy | oraImm | oraZp | oraZpx
  | oraAbs | oraAbsx | oraAbsy | oraIndx | oraIndy | eorImm | eorZp | eorZpx | eorAbs | eorAbsx
  | eorAbsy | eorIndx | eorIndy =>
    exact .logic _ _ (by simp [Instr.mnemonic]) rfl
  | bitZp | bitAbs => exact .bit _ rfl rfl
  | cmpImm | cmpZp | cmpZpx | cmpAbs | cmpAbsx | cmpAbsy | cmpIndx | cmpIndy | cpxImm | cpxZp | cpxAbs
  | cpyImm | cpyZp | cpyAbs =>
    exact .compare _ _ (by simp [Instr.mnemonic]) rfl
  | adcImm | adcZp | adcZpx | adcAbs | adcAbsx | adcAbsy | adcIndx | adcIndy => exact .adc _ rfl rfl
  | sbcImm | sbcZp | sbcZpx | sbcAbs | sbcAbsx | sbcAbsy | sbcIndx | sbcIndy => exact .sbc _ rfl rfl
  | aslAcc | lsrAcc | rolAcc | rorAcc => exact .shiftAcc _ _ (by simp [Instr.mnemonic]) rfl
  | aslZp | aslZpx | aslAbs | aslAbsx | lsrZp | lsrZpx | lsrAbs | lsrAbsx | rolZp | rolZpx | rolAbs
  | rolAbsx | rorZp | rorZpx | rorAbs | rorAbsx =>
    exact .shiftMem _ _ _ (by simp [Instr.mnemonic]) rfl
  | incZp | incZpx | incAbs | incAbsx | decZp | decZpx | decAbs | decAbsx =>
    exact .incDec _ _ (by simp [Instr.mnemonic]) rfl
  | jmpAbs => exact .jmpAbs _ rfl rfl
  | jmpInd => exact .jmpInd _ rfl rfl
  | jsr target =>
    simp only [exec, execJsr]
    split
    · next hc => exact .jsrFault target rfl rfl hc
    · next hc => exact .jsr target rfl rfl (by simpa using hc)
  | brk => exact .brk rfl rfl
  | rts => exact .rts rfl rfl
  | rti => exact .rti rfl rfl
  | php => exact .php rfl rfl
  | plp => exact .plp rfl rfl
  | pha => exact .pha rfl rfl
  | pla => exact .pla rfl rfl
  | inx | dex | tax | tsx => exact .toX _ (by simp [Instr.mnemonic]) rfl
  | iny | dey | tay => exact .toY _ (by simp [Instr.mnemonic]) rfl
  | txa | tya => exact .toA _ (by simp [Instr.mnemonic]) rfl
  | txs => exact .txs rfl rfl
  | sed | cld | cli | sec | clc | clv => exact .flag _ (by simp [Instr.mnemonic]) rfl
  | sei => exact .sei rfl rfl
  | nop => exact .nop rfl rfl
  | beq | bne | bmi | bpl | bcc | bcs | bvc | bvs => exact .branch _ _ (by simp [Instr.mnemonic]) rfl

/-- An execution that answers a next state is one of the cases that do. -/
theorem execCase_of_next {i : Instr} {s t : State} (h : exec i s = .next t) : ExecCase i s (.next t) :=
  h ▸ exec_case i s

end Sys2Proof.Machine
end

section
/-! SUPPORT. What every execution leaves alone or does alike: the map, the bytes that are not RAM, the bytes it does not
store to, and the advance of PC. -/

namespace Sys2Proof.Machine

/-! ### The map and the memory -/

/-- No instruction changes the memory map. -/
theorem exec_memMap {i : Instr} {s t : State} (h : exec i s = .next t) : t.memMap = s.memMap := by
  cases execCase_of_next h <;> simp

/-- No instruction changes a byte that the map does not call RAM (R53): the meanings that write go through MemWrite, and
the others leave memory alone. -/
theorem exec_peek_notRam {i : Instr} {s t : State} (h : exec i s = .next t) {k : Word} (hk : s.kindAt k ≠ .ram) :
    t.peek k = s.peek k := by
  cases execCase_of_next h with
  | sta m => exact opSta_peek_notRam s m hk
  | stx m => exact opStx_peek_notRam s m hk
  | sty m => exact opSty_peek_notRam s m hk
  | shiftMem f out m => exact opShift_peek_notRam s f out (.mem m) hk
  | incDec f m => exact opIncDec_peek_notRam s f m hk
  | jsr target => exact opJsr_peek_notRam s target hk
  | brk => exact State.takeException_peek_notRam (s.advance 1) _ _ _ hk
  | php => exact State.push_peek_notRam (s.advance 1) _ hk
  | pha => exact State.push_peek_notRam (s.advance 1) _ hk
  | _ => simp

/-- A shift or rotate of memory stores to its effective address (R160 to R163, R166). -/
theorem storesTo_shift {i : Instr} {s : State} {m : MemForm} (hm : i.mnemonic ∈ [.asl, .lsr, .rol, .ror])
    (ho : i.operand = .data (.mem m)) : storesTo i s = [(effAddr m (s.advance (memLength m))).1] := by
  simp only [List.mem_cons, List.not_mem_nil, or_false] at hm
  rcases hm with h | h | h | h <;> simp [storesTo, h, ho]

/-- INC and DEC store to their effective address (R164, R165, R166). -/
theorem storesTo_incDec {i : Instr} {s : State} {m : MemForm} (hm : i.mnemonic ∈ [.inc, .dec])
    (ho : i.operand = .data (.mem m)) : storesTo i s = [(effAddr m (s.advance (memLength m))).1] := by
  simp only [List.mem_cons, List.not_mem_nil, or_false] at hm
  rcases hm with h | h <;> simp [storesTo, h, ho]

/-- An instruction changes memory only at the addresses it stores to (R110, R166, R172, R176, R179, R181). -/
theorem exec_peek_other {i : Instr} {s t : State} (h : exec i s = .next t) {k : Word} (hk : k ∉ storesTo i s) :
    t.peek k = s.peek k := by
  cases execCase_of_next h with
  | sta m hm ho => exact opSta_peek_other s m (by simpa [storesTo, hm, ho] using hk)
  | stx m hm ho => exact opStx_peek_other s m (by simpa [storesTo, hm, ho] using hk)
  | sty m hm ho => exact opSty_peek_other s m (by simpa [storesTo, hm, ho] using hk)
  | shiftMem f out m hm ho =>
    have hl : i.mnemonic ∈ [.asl, .lsr, .rol, .ror] := List.mem_map_of_mem (f := Prod.fst) hm
    exact opShift_peek_other s f out m (by simpa [storesTo_shift hl ho] using hk)
  | incDec f m hm ho =>
    have hl : i.mnemonic ∈ [.inc, .dec] := List.mem_map_of_mem (f := Prod.fst) hm
    exact opIncDec_peek_other s f m (by simpa [storesTo_incDec hl ho] using hk)
  | jsr target hm ho =>
    obtain ⟨h0, h1⟩ : k ≠ stackAddr s.sp ∧ k ≠ stackAddr (s.sp - 1) := by simpa [storesTo, hm] using hk
    exact opJsr_peek_other s target h0 h1
  | brk hm ho =>
    obtain ⟨h0, h1, h2⟩ : k ≠ stackAddr s.sp ∧ k ≠ stackAddr (s.sp - 1) ∧ k ≠ stackAddr (s.sp - 2) := by
      simpa [storesTo, hm] using hk
    exact State.takeException_peek_other (s.advance 1) _ _ _ h0 h1 h2
  | php hm ho => exact State.push_peek_other (s.advance 1) _ (by simpa [storesTo, hm] using hk)
  | pha hm ho => exact State.push_peek_other (s.advance 1) _ (by simpa [storesTo, hm] using hk)
  | _ => simp

/-! ### The advance of PC -/

@[simp] theorem sourceLength_imm (b : Byte) : sourceLength (.imm b) = 2 := rfl
@[simp] theorem sourceLength_mem (m : MemForm) : sourceLength (.mem m) = memLength m := rfl
@[simp] theorem placeLength_acc : placeLength .acc = 1 := rfl
@[simp] theorem placeLength_mem (m : MemForm) : placeLength (.mem m) = memLength m := rfl
@[simp] theorem mode_length_imp : Operand.imp.mode.length = 1 := rfl
@[simp] theorem mode_length_acc : Operand.acc.mode.length = 1 := rfl

/-- The length of an instruction with a data operand is its mode's (R82). -/
@[simp] theorem mode_length_data (src : Source) : (Operand.data src).mode.length = sourceLength src := by
  cases src with
  | imm b => rfl
  | mem m => cases m <;> rfl

/-- An instruction outside R24's list ends at the next sequential instruction: those that write PC otherwise are in the
list, and every other meaning advances PC by the length of its mode. -/
theorem exec_pc {i : Instr} {s t : State} (hw : Claims.writesPc i.mnemonic = false) (h : exec i s = .next t) :
    t.pc = Claims.nextPc i s := by
  have branches : ∀ m ∈ [Mnemonic.beq, .bne, .bmi, .bpl, .bcc, .bcs, .bvc, .bvs], Claims.writesPc m = true := by
    decide
  cases execCase_of_next h with
  | branch c disp hm => exact absurd (branches _ (List.mem_map_of_mem (f := Prod.fst) hm)) (by simp [hw])
  | jmpAbs _ hm | jmpInd _ hm | jsr _ hm | brk hm | rts hm | rti hm => simp [hm, Claims.writesPc] at hw
  | _ => simp [Claims.nextPc, *]

end Sys2Proof.Machine
end

section
/-! SUPPORT. What the map says of an address, what a fetch from RAM and ROM gives, and what each kind of boundary
leaves of the map and of memory. -/

namespace Sys2Proof.Machine

/-! ### The memory map -/

/-- The recursion of `kindAt` finds the first region that holds the address (R5; log 11). -/
theorem kindAt_eq_mapSays (m : MemoryMap) (a : Word) : kindAt m a = Claims.mapSays m a := by
  induction m with
  | nil => rfl
  | cons r rs ih =>
    by_cases h : r.first.toNat ≤ a.toNat ∧ a.toNat ≤ r.last.toNat
    · simp [kindAt, Claims.mapSays, BitVec.le_def, h]
    · simp only [kindAt, BitVec.le_def, h, if_false, ih]
      simp [Claims.mapSays, h]

/-! ### Fetching from RAM and ROM -/

/-- Bytes fetched from RAM and ROM are the stored ones, and fetching them changes nothing (R7, R52). -/
theorem State.fetchBytes_of_stored (n : Nat) (a : Word) (s : State)
    (h : ∀ k < n, Claims.Stored s (a + BitVec.ofNat 16 k)) :
    State.fetchBytes n a s = ((List.range n).map fun k => s.peek (a + BitVec.ofNat 16 k), s) := by
  induction n generalizing a with
  | zero => rfl
  | succ n ih =>
    have shift (k : Nat) : a + 1 + BitVec.ofNat 16 k = a + BitVec.ofNat 16 (k + 1) := by
      rw [BitVec.ofNat_add]; bv_omega
    have first : Claims.Stored s a := by simpa using h 0 (Nat.succ_pos n)
    have rest := ih (a + 1) fun k hk => by rw [shift]; exact h (k + 1) (by omega)
    simp only [State.fetchBytes, s.memRead_stored a first, rest, shift]
    simp [List.range_succ_eq_map, Function.comp_def]

/-- The format of a cell has the length of every instruction it makes (R81, R82). -/
def LengthAgrees : Form → Prop
  | .f1 i => i.operand.mode.length = 1
  | .f2 mk => ∀ b, (mk b).operand.mode.length = 2
  | .f3 mk => ∀ w, (mk w).operand.mode.length = 3

/-- In every cell of the grid of R84 the format and the mode agree on the length. -/
theorem opcodeTable_lengthAgrees : ∀ r ∈ opcodeTable, LengthAgrees r.form := by
  simp only [opcodeTable, opcodeRow0, opcodeRow1, opcodeRow2, opcodeRow3, opcodeRow4, opcodeRow5, opcodeRow6,
    opcodeRow7, opcodeRow8, opcodeRow9, opcodeRowA, opcodeRowB, opcodeRowC, opcodeRowD, opcodeRowE, opcodeRowF,
    List.forall_mem_append, List.forall_mem_cons, List.not_mem_nil, false_imp_iff, implies_true, and_true, LengthAgrees]
  and_intros <;> intros <;> rfl

theorem formOf_lengthAgrees {opc : Byte} {f : Form} (h : formOf opc = some f) : LengthAgrees f := by
  obtain ⟨r, hr, rfl⟩ := Option.map_eq_some_iff.1 h
  exact opcodeTable_lengthAgrees r (List.mem_of_find?_eq_some hr)

theorem opcodeLength_of_formOf {opc : Byte} {f : Form} (h : formOf opc = some f) : opcodeLength opc = f.length := by
  simp only [opcodeLength, h]

/-- An instruction decoded from three bytes has the length of the format of its opcode, and decodes from that many of
them (R81, R83). -/
theorem decode_take_length {opc b1 b2 : Byte} {i : Instr} {rest : List Byte}
    (h : decode [opc, b1, b2] = .ok (i, rest)) :
    i.operand.mode.length = opcodeLength opc ∧ decode ([opc, b1, b2].take (opcodeLength opc)) = .ok (i, []) := by
  cases hf : formOf opc with
  | none => simp [decode, hf] at h
  | some f =>
    have hl := formOf_lengthAgrees hf
    rw [opcodeLength_of_formOf hf]
    cases f with
    | f1 j =>
      obtain ⟨rfl, -⟩ : j = i ∧ _ := by simpa [decode, hf] using h
      exact ⟨hl, by simp [hf, Form.length, decode]⟩
    | f2 mk =>
      obtain ⟨rfl, -⟩ : mk b1 = i ∧ _ := by simpa [decode, hf] using h
      exact ⟨hl b1, by simp [hf, Form.length, decode]⟩
    | f3 mk =>
      obtain ⟨rfl, -⟩ : mk (word b2 b1) = i ∧ _ := by simpa [decode, hf] using h
      exact ⟨hl (word b2 b1), by simp [hf, Form.length, decode]⟩

/-- An opcode byte asks for one, two or three bytes (R81). -/
theorem opcodeLength_cases (opc : Byte) : opcodeLength opc = 1 ∨ opcodeLength opc = 2 ∨ opcodeLength opc = 3 := by
  cases hf : formOf opc with
  | none => simp [opcodeLength, hf]
  | some f => cases f <;> simp [opcodeLength_of_formOf hf, Form.length]

/-- An instruction whose bytes are RAM or ROM is fetched as the stored bytes, and the fetch changes nothing (R65). -/
theorem State.fetchInstruction_of_stored (s : State)
    (h : ∀ k < opcodeLength (s.peek s.pc), Claims.Stored s (s.pc + BitVec.ofNat 16 k)) :
    s.fetchInstruction =
      ([s.peek s.pc, s.peek (s.pc + 1), s.peek (s.pc + 2)].take (opcodeLength (s.peek s.pc)), s) := by
  have length := opcodeLength_cases (s.peek s.pc)
  have first : Claims.Stored s s.pc := by simpa using h 0 (by omega)
  obtain ⟨n, hn⟩ : ∃ n, opcodeLength (s.peek s.pc) = n + 1 := Nat.exists_eq_add_one_of_ne_zero (by omega)
  have fetched : s.fetchInstruction = State.fetchBytes (n + 1) s.pc s := by
    simp [State.fetchInstruction, State.fetchBytes, s.memRead_stored _ first, hn]
  rw [fetched, ← hn, State.fetchBytes_of_stored _ _ _ h]
  rcases length with e | e | e <;> simp [e, List.range_succ]

/-- When the bytes of the instruction at PC are RAM or ROM and decode, the fetch answers that instruction and changes
nothing (R7, R65). -/
theorem State.fetchDecode_of_stored {s : State} {i : Instr} {rest : List Byte}
    (hs : ∀ k < i.operand.mode.length, Claims.Stored s (s.pc + BitVec.ofNat 16 k))
    (hd : decode [s.peek s.pc, s.peek (s.pc + 1), s.peek (s.pc + 2)] = .ok (i, rest)) :
    s.fetchDecode = .ok (i, s) := by
  obtain ⟨hl, hd⟩ := decode_take_length hd
  rw [hl] at hs
  simp only [State.fetchDecode, s.fetchInstruction_of_stored hs, hd]

/-- A fetch that decodes changes no byte of memory. -/
theorem State.fetchDecode_peek {s u : State} {i : Instr} (h : s.fetchDecode = .ok (i, u)) (k : Word) :
    u.peek k = s.peek k := by
  rw [State.fetchDecode_shape h]
  rfl

/-- A fetch that decodes leaves the memory map. -/
theorem State.fetchDecode_memMap {s u : State} {i : Instr} (h : s.fetchDecode = .ok (i, u)) : u.memMap = s.memMap := by
  rw [State.fetchDecode_shape h]

/-- What stands at an address depends on the memory map alone (R5). -/
theorem State.kindAt_congr {s u : State} (h : u.memMap = s.memMap) (k : Word) : u.kindAt k = s.kindAt k := by
  rw [State.kindAt, h, State.kindAt]

/-- At a boundary that leads to an instruction, the step executes what the fetch answers (R7). -/
theorem step_of_fetchDecode {s u : State} {i : Instr} (hb : s.boundaryEvent = .instruction)
    (hf : s.sampled.beginInstruction.fetchDecode = .ok (i, u)) : step s = exec i u := by
  simp only [step, hb, State.runInstruction, hf]

/-! ### Resets and interrupt entries -/

/-- The reset step leaves the memory map (R270). -/
@[simp] theorem State.resetStep_memMap (s : State) : s.resetStep.memMap = s.memMap := by
  simp [State.resetStep, State.resetRegisters]

/-- The reset step leaves memory (R270). -/
@[simp] theorem State.resetStep_peek (s : State) (k : Word) : s.resetStep.peek k = s.peek k := by
  simp only [State.resetStep, State.setPc_peek, State.read16_peek]
  rfl

@[simp] theorem State.scramble_memMap (l : List Word) (s : State) : (State.scramble l s).memMap = s.memMap := by
  rw [State.scramble_shape]

@[simp] theorem State.enter_memMap (s : State) (vector : Word) : (s.enter vector).memMap = s.memMap :=
  s.takeException_memMap s.pc false vector

/-- An interrupt entry changes nothing where the map does not say RAM (R53, R236). -/
theorem State.enter_peek_notRam (s : State) (vector : Word) {k : Word} (hk : s.kindAt k ≠ .ram) :
    (s.enter vector).peek k = s.peek k :=
  s.takeException_peek_notRam s.pc false vector hk

/-- An interrupt entry changes memory only at the three stack bytes it pushes (R236). -/
theorem State.enter_peek_other (s : State) (vector : Word) {k : Word}
    (hk : k ∉ [stackAddr s.sp, stackAddr (s.sp - 1), stackAddr (s.sp - 2)]) : (s.enter vector).peek k = s.peek k := by
  simp only [List.mem_cons, List.not_mem_nil, or_false, not_or] at hk
  obtain ⟨h0, h1, h2⟩ := hk
  exact s.takeException_peek_other s.pc false vector h0 h1 h2

end Sys2Proof.Machine
end

section
/-! The statements about a whole step, about PC, and about reading and writing memory, settled. -/

namespace Sys2Proof.Proofs.Scope

open Sys2Proof.Machine

/-- Settles O9: a reset leaves memory or scrambles RAM alone, an interrupt entry pushes through MemWrite, and an
instruction writes through MemWrite. -/
theorem romAndMapNeverChange : Obligations.RomAndMapNeverChange := by
  unfold Obligations.RomAndMapNeverChange
  intro s t h
  rcases step_cases h with ⟨-, hr⟩ | ⟨-, rfl⟩ | ⟨-, rfl⟩ | ⟨-, i, u, hf, hx⟩
  · rcases State.takeReset_cases hr with ⟨-, rfl⟩ | ⟨-, i, u, v, -, -, rfl⟩
    · exact ⟨by simp, fun a _ => by simp⟩
    · refine ⟨by simp, fun a ha => ?_⟩
      rw [State.resetStep_peek]
      exact State.scramble_peek_notRam _ _ ha
  · exact ⟨s.sampled.enter_memMap nmiVector, fun a ha => s.sampled.enter_peek_notRam nmiVector ha⟩
  · exact ⟨s.sampled.enter_memMap irqVector, fun a ha => s.sampled.enter_peek_notRam irqVector ha⟩
  · have hu : u.memMap = s.memMap := by simpa using State.fetchDecode_memMap hf
    refine ⟨(exec_memMap hx).trans hu, fun a ha => ?_⟩
    calc t.peek a = u.peek a := exec_peek_notRam hx (by rwa [State.kindAt_congr hu])
      _ = s.peek a := State.fetchDecode_peek hf a

/-- Settles O11: at each kind of boundary, an address outside the stated ones reads as before. -/
theorem stepMemoryFrame : Obligations.StepMemoryFrame := by
  unfold Obligations.StepMemoryFrame
  intro s t a h hne
  rcases step_cases h with ⟨hb, hr⟩ | ⟨hb, rfl⟩ | ⟨hb, rfl⟩ | ⟨hb, i, u, hf, hx⟩
  · rcases State.takeReset_cases hr with ⟨-, rfl⟩ | ⟨hin, i, u, v, hf, -, rfl⟩
    · exact absurd (by simp) hne
    · refine .inr (.inr ⟨hb, hin, i, u, hf, ?_⟩)
      by_contra ha
      rw [State.resetStep_peek, State.scramble_peek_other _ _ ha] at hne
      exact hne rfl
  · refine .inr (.inl ⟨.inl hb, ?_⟩)
    by_contra ha
    exact hne (s.sampled.enter_peek_other nmiVector ha)
  · refine .inr (.inl ⟨.inr hb, ?_⟩)
    by_contra ha
    exact hne (s.sampled.enter_peek_other irqVector ha)
  · refine .inl ⟨hb, i, u, hf, ?_⟩
    by_contra ha
    exact hne ((exec_peek_other hx ha).trans (State.fetchDecode_peek hf a))

/-- Settles O12, by the advance of PC that every meaning outside R24's list shares. -/
theorem otherInstructionsAdvancePc : Obligations.OtherInstructionsAdvancePc := by
  unfold Obligations.OtherInstructionsAdvancePc
  intro i s t hw h
  exact exec_pc hw h

/-- Settles O17: one clause for each kind of region that the map can name. -/
theorem memReadFollowsMap : Obligations.MemReadFollowsMap := by
  unfold Obligations.MemReadFollowsMap
  intro s a
  refine ⟨kindAt_eq_mapSays s.memMap a, s.memRead_stored a, ?_, ?_⟩
  · rintro (h | h) <;> simp [State.memRead, h, State.drawByte]
  · intro h
    simp [State.memRead, h, State.drawByte]

/-- Settles O18: one clause for each kind of region that the map can name. -/
theorem memWriteFollowsMap : Obligations.MemWriteFollowsMap := by
  unfold Obligations.MemWriteFollowsMap
  intro s a v
  refine ⟨kindAt_eq_mapSays s.memMap a, fun h => ⟨?_, ?_, ?_⟩, ?_, ?_⟩
  · exact s.memWrite_peek_same a v h
  · exact fun k hk => s.memWrite_peek_other a v hk
  · rw [s.memWrite_ram a v h]
  · rintro (h | h) <;> simp [State.memWrite, h]
  · intro r h
    simp [State.memWrite, h]

/-- Settles O4: the sampled state is read off from its definition, and the fetch of stored bytes that decode answers the
decoded instruction on an unchanged state. -/
theorem stepRunsDecodedInstruction : Obligations.StepRunsDecodedInstruction := by
  unfold Obligations.StepRunsDecodedInstruction
  refine ⟨fun s => ⟨?_, rfl, rfl⟩, fun s i rest hb hs hd => ?_⟩
  · unfold State.boundaryInput
    cases s.inputs <;> rfl
  · have fetched : s.sampled.beginInstruction.fetchDecode = .ok (i, s.sampled.beginInstruction) :=
      State.fetchDecode_of_stored hs hd
    exact step_of_fetchDecode hb fetched

/-- Settles O5: the step executes what the fetch answers, and the fetch changes draws and events alone. -/
theorem fetchOnlyReads : Obligations.FetchOnlyReads := by
  unfold Obligations.FetchOnlyReads
  intro s t i hb hf
  exact ⟨step_of_fetchDecode hb hf, State.fetchDecode_shape hf⟩

end Sys2Proof.Proofs.Scope
end

section
/-! SUPPORT. The invariant of the machine and the NMI latch: what an instruction, an interrupt entry, a reset and the
sampling of a boundary make of them. -/

namespace Sys2Proof.Machine

/-! ### The canonical form -/

/-- Every instruction keeps the canonical form of memory: those that write go through MemWrite, and the others leave
memory alone. -/
theorem exec_wf {i : Instr} {s t : State} (h : exec i s = .next t) (hw : s.mem.wf = true) : t.mem.wf = true := by
  cases execCase_of_next h with
  | sta m => exact opSta_wf s m hw
  | stx m => exact opStx_wf s m hw
  | sty m => exact opSty_wf s m hw
  | shiftMem f out m => exact opShift_wf s f out (.mem m) hw
  | incDec f m => exact opIncDec_wf s f m hw
  | jsr target => exact opJsr_wf s target hw
  | brk => exact State.takeException_wf (s.advance 1) _ _ _ hw
  | php => exact State.push_wf (s.advance 1) _ hw
  | pha => exact State.push_wf (s.advance 1) _ hw
  | _ => simpa using hw

/-! ### The NMI latch -/

/-- A BRK takes the NMI vector exactly when a pending NMI captures it (R242; log 10). -/
theorem brkVector_eq_nmiVector_iff (s : State) :
    brkVector s = nmiVector ↔ s.nmiPending = true ∧ s.brkNmi = true := by
  simp [brkVector, nmiVector, irqVector]

/-- An instruction that is no captured BRK leaves the latch, and what fairness remembers of it (R34, R242). -/
theorem exec_nmi_of_not_captured {i : Instr} {s t : State} (h : exec i s = .next t) (hc : ¬ Claims.Captured i s) :
    t.nmiPending = s.nmiPending ∧ t.nmiHeld = s.nmiHeld := by
  cases execCase_of_next h with
  | brk hm =>
    have hv : brkVector s ≠ nmiVector := fun e => hc ⟨hm, (brkVector_eq_nmiVector_iff s).1 e⟩
    simp [hv]
  | _ => simp

theorem eq_brk_of_mnemonic {i : Instr} (hm : i.mnemonic = .brk) : i = .brk := by
  revert hm
  cases i <;> simp [Instr.mnemonic]

/-- A captured BRK clears the latch, and what fairness remembers of it (R34, R242). -/
theorem exec_nmi_of_captured {i : Instr} {s t : State} (h : exec i s = .next t) (hc : Claims.Captured i s) :
    t.nmiPending = false ∧ t.nmiHeld = false := by
  obtain ⟨hm, hn⟩ := hc
  have hv := (brkVector_eq_nmiVector_iff s).2 hn
  obtain rfl := eq_brk_of_mnemonic hm
  cases h
  simp [hv]

/-! ### The invariant -/

theorem exec_inv {i : Instr} {s t : State} (h : exec i s = .next t) (hs : s.Inv) : t.Inv := by
  obtain ⟨hw, hn⟩ := hs
  refine ⟨exec_wf h hw, ?_⟩
  by_cases hc : Claims.Captured i s
  · simp [exec_nmi_of_captured h hc]
  · simpa [exec_nmi_of_not_captured h hc] using hn

/-- An NMI edge sets the latch and nothing clears it before the boundary's event (R232). -/
theorem State.sampled_inv {s : State} (hs : s.Inv) : s.sampled.Inv := by
  obtain ⟨hw, hn⟩ := hs
  exact ⟨hw, fun h => by simp [hn h]⟩

/-- What fairness notes of the NMI before an instruction is the latch itself (log 8). -/
theorem State.beginInstruction_inv {s : State} (hw : s.mem.wf = true) : s.beginInstruction.Inv :=
  ⟨hw, id⟩

theorem State.fetchDecode_inv {s u : State} {i : Instr} (h : s.fetchDecode = .ok (i, u)) (hs : s.Inv) : u.Inv := by
  rw [State.fetchDecode_shape h]
  exact hs

/-- An interrupt entry clears the latch and what fairness remembers of it together, or neither (R236). -/
theorem State.enter_inv {s : State} (vector : Word) (hs : s.Inv) : (s.enter vector).Inv := by
  obtain ⟨hw, hn⟩ := hs
  refine ⟨s.takeException_wf s.pc false vector hw, fun h => ?_⟩
  obtain ⟨hh, hv⟩ : s.nmiHeld = true ∧ vector ≠ nmiVector := by simpa [State.enter] using h
  simp [State.enter, hn hh, hv]

@[simp] theorem State.resetStep_mem (s : State) : s.resetStep.mem = s.mem := by
  simp [State.resetStep, State.resetRegisters]

@[simp] theorem State.resetStep_nmiPending (s : State) : s.resetStep.nmiPending = false := by
  simp [State.resetStep, State.resetRegisters]

@[simp] theorem State.resetStep_nmiHeld (s : State) : s.resetStep.nmiHeld = false := by
  simp [State.resetStep, State.resetRegisters]

/-- A reset leaves memory and clears the latch and what fairness remembers of it (R270). -/
theorem State.resetStep_inv {s : State} (hw : s.mem.wf = true) : s.resetStep.Inv :=
  ⟨by simpa using hw, by simp⟩

theorem State.takeReset_inv {s t : State} (h : s.takeReset = .next t) (hs : s.Inv) : t.Inv := by
  have hw : s.sampled.mem.wf = true := hs.1
  rcases State.takeReset_cases h with ⟨-, rfl⟩ | ⟨-, i, u, v, -, -, rfl⟩
  · exact State.resetStep_inv hw
  · exact State.resetStep_inv (State.scramble_wf _ _ hw)

end Sys2Proof.Machine
end

section
/-! SUPPORT. The flags, the registers and the environment's inputs after an instruction, said for every execution. -/

namespace Sys2Proof.Machine

/-- What holds of every mnemonic of a family holds of an instruction of that family. -/
theorem mnemonic_of_family {α : Type} {P : Mnemonic → Prop} {m : Mnemonic} {a : α} {l : List (Mnemonic × α)}
    (hm : (m, a) ∈ l) (h : ∀ k ∈ l.map Prod.fst, P k) : P m :=
  h m (List.mem_map_of_mem (f := Prod.fst) hm)

/-! ### The flags each shared meaning leaves -/

variable (s : State)

@[simp] theorem setNZ_v (p : Status) (v : Byte) : (setNZ p v).v = p.v := rfl
@[simp] theorem setNZ_d (p : Status) (v : Byte) : (setNZ p v).d = p.d := rfl
@[simp] theorem setNZ_i (p : Status) (v : Byte) : (setNZ p v).i = p.i := rfl
@[simp] theorem setNZ_c (p : Status) (v : Byte) : (setNZ p v).c = p.c := rfl

/-- LDA sets N and Z from its operand (R130). -/
@[simp] theorem opLda_p (src : Source) :
    (opLda src s).p = setNZ s.p (readSource src (s.advance (sourceLength src))).1 := by
  simp [opLda]

/-- LDX sets N and Z from its operand (R132). -/
@[simp] theorem opLdx_p (src : Source) :
    (opLdx src s).p = setNZ s.p (readSource src (s.advance (sourceLength src))).1 := by
  simp [opLdx]

/-- LDY sets N and Z from its operand (R134). -/
@[simp] theorem opLdy_p (src : Source) :
    (opLdy src s).p = setNZ s.p (readSource src (s.advance (sourceLength src))).1 := by
  simp [opLdy]

/-- AND, ORA and EOR set N and Z from the result (R140, R141, R142). -/
@[simp] theorem opLogic_p (f : Byte → Byte → Byte) (src : Source) :
    (opLogic f src s).p = setNZ s.p (f s.a (readSource src (s.advance (sourceLength src))).1) := by
  simp [opLogic]

/-- BIT sets its three flags from A and its operand (R143). -/
@[simp] theorem opBit_p (m : MemForm) :
    (opBit m s).p = bitFlags s.p s.a (readMem m (s.advance (memLength m))).1 := by
  simp [opBit]

/-- The compares set their three flags from the register and the operand (R147). -/
@[simp] theorem opCompare_p (reg : Byte) (src : Source) :
    (opCompare reg src s).p = compareFlags s.p reg (readSource src (s.advance (sourceLength src))).1 := by
  simp [opCompare]

/-- ADC leaves D, in binary and in decimal (R150, R156). -/
@[simp] theorem opAdc_p_d (src : Source) : (opAdc src s).p.d = s.p.d := by
  simp only [opAdc]; split <;> simp [State.setDecimal, State.addBinary, decimalFlags, addBinaryFlags]

/-- ADC leaves I, in binary and in decimal (R150, R156). -/
@[simp] theorem opAdc_p_i (src : Source) : (opAdc src s).p.i = s.p.i := by
  simp only [opAdc]; split <;> simp [State.setDecimal, State.addBinary, decimalFlags, addBinaryFlags]

/-- SBC leaves D, in binary and in decimal (R151, R156). -/
@[simp] theorem opSbc_p_d (src : Source) : (opSbc src s).p.d = s.p.d := by
  simp only [opSbc]; split <;> simp [State.setDecimal, State.addBinary, decimalFlags, addBinaryFlags]

/-- SBC leaves I, in binary and in decimal (R151, R156). -/
@[simp] theorem opSbc_p_i (src : Source) : (opSbc src s).p.i = s.p.i := by
  simp only [opSbc]; split <;> simp [State.setDecimal, State.addBinary, decimalFlags, addBinaryFlags]

/-- A shift or rotate sets C from the old byte, N and Z from the new one (R160 to R163). -/
@[simp] theorem opShift_p (f : Byte → Byte) (out : Byte → Bool) (pl : Place) :
    (opShift f out pl s).p =
      setNZ { s.p with c := out (modifyPlace pl f (s.advance (placeLength pl))).1 }
        (f (modifyPlace pl f (s.advance (placeLength pl))).1) := by
  simp [opShift]

/-- INC and DEC set N and Z from the new byte (R164, R165). -/
@[simp] theorem opIncDec_p (f : Byte → Byte) (m : MemForm) :
    (opIncDec f m s).p = setNZ s.p (f (modifyMem m f (s.advance (memLength m))).1) := by
  simp [opIncDec]

/-! ### The flags R26 does not list -/

/-- The flags `q` agree with `p` on every flag that `w` does not mark as written. -/
def KeepsUnlisted (w p q : Status) : Prop :=
  (w.n = false → q.n = p.n) ∧ (w.v = false → q.v = p.v) ∧ (w.d = false → q.d = p.d) ∧
  (w.i = false → q.i = p.i) ∧ (w.z = false → q.z = p.z) ∧ (w.c = false → q.c = p.c)

/-- The flags of one assignment are those that R26 lists for its mnemonic (R200 to R206). -/
theorem keepsUnlisted_flag {m : Mnemonic} {p q : Status}
    (hm : (m, q) ∈ [(.sed, { p with d := true }), (.cld, { p with d := false }), (.cli, { p with i := false }),
      (.sec, { p with c := true }), (.clc, { p with c := false }), (.clv, { p with v := false })]) :
    KeepsUnlisted (Claims.flagsWritten m) p q := by
  simp only [List.mem_cons, List.not_mem_nil, or_false, Prod.mk.injEq] at hm
  rcases hm with ⟨rfl, rfl⟩ | ⟨rfl, rfl⟩ | ⟨rfl, rfl⟩ | ⟨rfl, rfl⟩ | ⟨rfl, rfl⟩ | ⟨rfl, rfl⟩ <;>
    simp [KeepsUnlisted, Claims.flagsWritten]

/-- An instruction leaves every flag that R26 does not list for it: the loads, the logic, the counts and the transfers
write N and Z, the shifts and compares C too, and the rest their own few or none. -/
theorem exec_flags {i : Instr} {s t : State} (h : exec i s = .next t) :
    KeepsUnlisted (Claims.flagsWritten i.mnemonic) s.p t.p := by
  cases execCase_of_next h with
  | flag q hm => exact keepsUnlisted_flag hm
  | logic _ _ hm | compare _ _ hm | shiftAcc _ _ hm | shiftMem _ _ _ hm | incDec _ _ hm | toX _ hm | toY _ hm
  | toA _ hm | branch _ _ hm =>
    exact mnemonic_of_family (P := fun k => KeepsUnlisted (Claims.flagsWritten k) _ _) hm
      (by simp [Claims.flagsWritten, KeepsUnlisted, compareFlags])
  | _ => simp [*, Claims.flagsWritten, KeepsUnlisted, bitFlags]

/-! ### The registers R20 to R22 do not list -/

/-- A changes only by the instructions whose destination it is (R20). -/
theorem exec_a {i : Instr} {s t : State} (h : exec i s = .next t) (hw : Claims.writesA i = false) : t.a = s.a := by
  cases execCase_of_next h with
  | lda _ hm | adc _ hm | sbc _ hm | pla hm => simp [Claims.writesA, hm] at hw
  | logic _ _ hm | toA _ hm =>
    have : Claims.writesA i = true :=
      mnemonic_of_family (P := fun k => i.mnemonic = k → Claims.writesA i = true) hm
        (by simp +contextual [Claims.writesA]) rfl
    simp [this] at hw
  | shiftAcc f out hm ho =>
    have : Claims.writesA i = true :=
      mnemonic_of_family (P := fun k => i.mnemonic = k → Claims.writesA i = true) hm
        (by simp +contextual [Claims.writesA, ho]) rfl
    simp [this] at hw
  | _ => simp

/-- X changes only by the instructions that R21 lists. -/
theorem exec_x {i : Instr} {s t : State} (h : exec i s = .next t) (hw : Claims.writesX i.mnemonic = false) :
    t.x = s.x := by
  cases execCase_of_next h with
  | ldx _ hm => simp [Claims.writesX, hm] at hw
  | toX v hm =>
    have : Claims.writesX i.mnemonic = true :=
      mnemonic_of_family (P := fun k => Claims.writesX k = true) hm (by simp [Claims.writesX])
    simp [this] at hw
  | _ => simp

/-- Y changes only by the instructions that R21 lists. -/
theorem exec_y {i : Instr} {s t : State} (h : exec i s = .next t) (hw : Claims.writesY i.mnemonic = false) :
    t.y = s.y := by
  cases execCase_of_next h with
  | ldy _ hm => simp [Claims.writesY, hm] at hw
  | toY v hm =>
    have : Claims.writesY i.mnemonic = true :=
      mnemonic_of_family (P := fun k => Claims.writesY k = true) hm (by simp [Claims.writesY])
    simp [this] at hw
  | _ => simp

/-- TXS apart, S moves by the bytes an instruction pushes and pulls (R22, R31). -/
theorem exec_sp {i : Instr} {s t : State} (h : exec i s = .next t) (hm : i.mnemonic ≠ .txs) :
    t.sp = s.sp + Claims.stackMove i.mnemonic := by
  cases execCase_of_next h with
  | txs hx => exact absurd hx hm
  | logic _ _ hf | compare _ _ hf | shiftAcc _ _ hf | shiftMem _ _ _ hf | incDec _ _ hf | toX _ hf | toY _ hf
  | toA _ hf | flag _ hf | branch _ _ hf =>
    have : Claims.stackMove i.mnemonic = 0 :=
      mnemonic_of_family (P := fun k => Claims.stackMove k = 0) hf (by simp [Claims.stackMove])
    simp [this]
  | _ => simp [*, Claims.stackMove, BitVec.sub_eq_add_neg]

/-! ### The inputs -/

theorem exec_irqLine {i : Instr} {s t : State} (h : exec i s = .next t) : t.irqLine = s.irqLine := by
  cases execCase_of_next h <;> simp

theorem exec_inputs {i : Instr} {s t : State} (h : exec i s = .next t) : t.inputs = s.inputs := by
  cases execCase_of_next h <;> simp

theorem exec_irqHeld {i : Instr} {s t : State} (h : exec i s = .next t) : t.irqHeld = s.irqHeld := by
  cases execCase_of_next h <;> simp

theorem exec_brkNmi {i : Instr} {s t : State} (h : exec i s = .next t) : t.brkNmi = s.brkNmi := by
  cases execCase_of_next h <;> simp

/-- Only SEI and PLP note what R242 admits after them (log 9). -/
theorem exec_irqLate {i : Instr} {s t : State} (h : exec i s = .next t) (hs : i.mnemonic ≠ .sei)
    (hp : i.mnemonic ≠ .plp) : t.irqLate = s.irqLate := by
  cases execCase_of_next h with
  | sei hm => exact absurd hm hs
  | plp hm => exact absurd hm hp
  | _ => simp

end Sys2Proof.Machine
end

section
/-! SUPPORT. D at another value: every reading and writing operation commutes with the choice of D, and so does every
instruction that does not use D. -/

namespace Sys2Proof.Machine

open Sys2Proof.Claims (withD outcomeWithD usesD)

variable (d : Bool) (s : State) (v : Byte) (a : Word)

/-! ### The state with D at a chosen value -/

@[simp] theorem withD_a : (withD d s).a = s.a := rfl
@[simp] theorem withD_x : (withD d s).x = s.x := rfl
@[simp] theorem withD_y : (withD d s).y = s.y := rfl
@[simp] theorem withD_sp : (withD d s).sp = s.sp := rfl
@[simp] theorem withD_pc : (withD d s).pc = s.pc := rfl
@[simp] theorem withD_p : (withD d s).p = { s.p with d := d } := rfl
@[simp] theorem withD_kindAt : (withD d s).kindAt a = s.kindAt a := rfl

/-! ### The register updates -/

@[simp] theorem withD_setA : (withD d s).setA v = withD d (s.setA v) := rfl
@[simp] theorem withD_setX : (withD d s).setX v = withD d (s.setX v) := rfl
@[simp] theorem withD_setY : (withD d s).setY v = withD d (s.setY v) := rfl
@[simp] theorem withD_setSp : (withD d s).setSp v = withD d (s.setSp v) := rfl
@[simp] theorem withD_setPc : (withD d s).setPc a = withD d (s.setPc a) := rfl
@[simp] theorem withD_advance (n : Nat) : (withD d s).advance n = withD d (s.advance n) := rfl
@[simp] theorem withD_setNZ : (withD d s).setNZ v = withD d (s.setNZ v) := rfl
@[simp] theorem withD_setC (c : Bool) : (withD d s).setC c = withD d (s.setC c) := rfl

/-- Flags that are given with D at the chosen value may be set first. -/
theorem withD_setP (p : Status) : (withD d s).setP { p with d := d } = withD d (s.setP p) := rfl

/-! ### Reading and writing -/

/-- A read answers the same byte whatever D holds (R25, R52). -/
@[simp] theorem withD_memRead : (withD d s).memRead a = Prod.map id (withD d) (s.memRead a) := by
  simp only [State.memRead, withD_kindAt]
  cases s.kindAt a with
  | device readEvents => cases readEvents <;> rfl
  | _ => rfl

@[simp] theorem withD_memWrite : (withD d s).memWrite a v = withD d (s.memWrite a v) := by
  simp only [State.memWrite, withD_kindAt]
  cases s.kindAt a <;> rfl

@[simp] theorem withD_readZp16 (z : Byte) : (withD d s).readZp16 z = Prod.map id (withD d) (s.readZp16 z) := by
  simp [State.readZp16]

@[simp] theorem withD_push : (withD d s).push v = withD d (s.push v) := by
  simp [State.push]

@[simp] theorem withD_pull : (withD d s).pull = Prod.map id (withD d) s.pull := by
  simp [State.pull]

@[simp] theorem withD_pushWord : (withD d s).pushWord a = withD d (s.pushWord a) := by
  simp [State.pushWord]

@[simp] theorem withD_pullWord : (withD d s).pullWord = Prod.map id (withD d) s.pullWord := by
  simp [State.pullWord]

@[simp] theorem withD_effAddr (m : MemForm) : effAddr m (withD d s) = Prod.map id (withD d) (effAddr m s) := by
  cases m <;> simp [effAddr]

@[simp] theorem withD_readMem (m : MemForm) : readMem m (withD d s) = Prod.map id (withD d) (readMem m s) := by
  simp [readMem]

@[simp] theorem withD_readSource (src : Source) :
    readSource src (withD d s) = Prod.map id (withD d) (readSource src s) := by
  cases src <;> simp [readSource]

@[simp] theorem withD_writeMem (m : MemForm) : writeMem m v (withD d s) = withD d (writeMem m v s) := by
  simp [writeMem]

@[simp] theorem withD_modifyMem (m : MemForm) (f : Byte → Byte) :
    modifyMem m f (withD d s) = Prod.map id (withD d) (modifyMem m f s) := by
  simp [modifyMem]

@[simp] theorem withD_modifyPlace (pl : Place) (f : Byte → Byte) :
    modifyPlace pl f (withD d s) = Prod.map id (withD d) (modifyPlace pl f s) := by
  cases pl <;> simp [modifyPlace, modifyAcc]

@[simp] theorem withD_indirectTarget :
    indirectTarget a (withD d s) = Prod.map id (withD d) (indirectTarget a s) := by
  simp [indirectTarget]

/-! ### The shared meanings -/

theorem withD_opLda (src : Source) : opLda src (withD d s) = withD d (opLda src s) := by simp [opLda]
theorem withD_opLdx (src : Source) : opLdx src (withD d s) = withD d (opLdx src s) := by simp [opLdx]
theorem withD_opLdy (src : Source) : opLdy src (withD d s) = withD d (opLdy src s) := by simp [opLdy]
theorem withD_opSta (m : MemForm) : opSta m (withD d s) = withD d (opSta m s) := by simp [opSta]
theorem withD_opStx (m : MemForm) : opStx m (withD d s) = withD d (opStx m s) := by simp [opStx]
theorem withD_opSty (m : MemForm) : opSty m (withD d s) = withD d (opSty m s) := by simp [opSty]

theorem withD_opLogic (f : Byte → Byte → Byte) (src : Source) :
    opLogic f src (withD d s) = withD d (opLogic f src s) := by
  simp [opLogic]

/-- BIT writes N, V and Z and reads no flag (R143). -/
theorem withD_opBit (m : MemForm) : opBit m (withD d s) = withD d (opBit m s) := by
  simp [opBit, bitFlags, ← withD_setP]

/-- Compare is always binary (R147). -/
theorem withD_opCompare (reg : Byte) (src : Source) :
    opCompare reg src (withD d s) = withD d (opCompare reg src s) := by
  simp [opCompare, compareFlags, ← withD_setP]

theorem withD_opShift (f : Byte → Byte) (out : Byte → Bool) (pl : Place) :
    opShift f out pl (withD d s) = withD d (opShift f out pl s) := by
  simp [opShift]

theorem withD_opIncDec (f : Byte → Byte) (m : MemForm) : opIncDec f m (withD d s) = withD d (opIncDec f m s) := by
  simp [opIncDec]

theorem withD_opBranch (cond : Bool) (disp : Byte) :
    opBranch cond disp (withD d s) = withD d (opBranch cond disp s) := by
  cases cond <;> simp [opBranch]

theorem withD_opJsr (target : Word) : opJsr target (withD d s) = withD d (opJsr target s) := by
  simp [opJsr]

theorem withD_execJsr (target : Word) :
    execJsr target (withD d s) = outcomeWithD d (execJsr target s) := by
  simp only [execJsr, withD_pc, withD_sp, withD_opJsr]
  split <;> rfl

/-! ### The instructions -/

/-- An instruction that neither reads nor writes D does the same whatever D holds, and leaves D as it was (R25, R155): each
arm is a shared meaning, or updates of registers and flags, and both commute with the choice of D. -/
theorem exec_withD {i : Instr} (h : usesD i.mnemonic = false) : exec i (withD d s) = outcomeWithD d (exec i s) := by
  cases i with
  | ldaImm | ldaZp | ldaZpx | ldaAbs | ldaAbsx | ldaAbsy | ldaIndx | ldaIndy => exact congrArg _ (withD_opLda d s _)
  | ldxImm | ldxZp | ldxZpy | ldxAbs | ldxAbsy => exact congrArg _ (withD_opLdx d s _)
  | ldyImm | ldyZp | ldyZpx | ldyAbs | ldyAbsx => exact congrArg _ (withD_opLdy d s _)
  | staZp | staZpx | staAbs | staAbsx | staAbsy | staIndx | staIndy => exact congrArg _ (withD_opSta d s _)
  | stxZp | stxZpy | stxAbs => exact congrArg _ (withD_opStx d s _)
  | styZp | styZpx | styAbs => exact congrArg _ (withD_opSty d s _)
  | andImm | andZp | andZpx | andAbs | andAbsx | andAbsy | andIndx | andIndy
  | oraImm | oraZp | oraZpx | oraAbs | oraAbsx | oraAbsy | oraIndx | oraIndy
  | eorImm | eorZp | eorZpx | eorAbs | eorAbsx | eorAbsy | eorIndx | eorIndy =>
    exact congrArg _ (withD_opLogic d s _ _)
  | bitZp | bitAbs => exact congrArg _ (withD_opBit d s _)
  | cmpImm | cmpZp | cmpZpx | cmpAbs | cmpAbsx | cmpAbsy | cmpIndx | cmpIndy
  | cpxImm | cpxZp | cpxAbs | cpyImm | cpyZp | cpyAbs => exact congrArg _ (withD_opCompare d s _ _)
  | aslZp | aslZpx | aslAbs | aslAbsx | aslAcc | lsrZp | lsrZpx | lsrAbs | lsrAbsx | lsrAcc
  | rolZp | rolZpx | rolAbs | rolAbsx | rolAcc | rorZp | rorZpx | rorAbs | rorAbsx | rorAcc =>
    exact congrArg _ (withD_opShift d s _ _ _)
  | incZp | incZpx | incAbs | incAbsx | decZp | decZpx | decAbs | decAbsx =>
    exact congrArg _ (withD_opIncDec d s _ _)
  | jmpInd ptr => simp [exec, execJmpInd, outcomeWithD]
  | jsr target => exact withD_execJsr d s target
  | rts => simp [exec, execRts, outcomeWithD]
  | pha => simp [exec, execPha, outcomeWithD]
  | pla => simp [exec, execPla, outcomeWithD]
  | beq | bne | bmi | bpl | bcc | bcs | bvc | bvs => exact congrArg _ (withD_opBranch d s _ _)
  | jmpAbs | inx | dex | iny | dey | tax | txa | tay | tya | tsx | txs | sei | cli | sec | clc | clv | nop => rfl
  | adcImm | adcZp | adcZpx | adcAbs | adcAbsx | adcAbsy | adcIndx | adcIndy
  | sbcImm | sbcZp | sbcZpx | sbcAbs | sbcAbsx | sbcAbsy | sbcIndx | sbcIndy
  | sed | cld | php | plp | brk | rti => cases h

end Sys2Proof.Machine
end

section
/-! SUPPORT. An NMI held at a boundary, the registers and PC after a reset, and the bits of the status byte. -/

namespace Sys2Proof.Machine

open Sys2Proof.Claims (Captured Stored DrawnRegisters)

/-! ### A held NMI -/

/-- A step at a boundary that leads to an instruction executes what it fetched (R7). -/
theorem step_instruction {s t : State} (hb : s.boundaryEvent = .instruction) (h : step s = .next t) :
    ∃ i u, s.sampled.beginInstruction.fetchDecode = .ok (i, u) ∧ exec i u = .next t := by
  rcases step_cases h with ⟨e, -⟩ | ⟨e, -⟩ | ⟨e, -⟩ | ⟨-, hx⟩
  · cases hb.symm.trans e
  · cases hb.symm.trans e
  · cases hb.symm.trans e
  · exact hx

/-- A pending NMI that was passed over at the last boundary is taken, unless RESET is requested (R235, R242; log 8). -/
theorem State.boundaryEvent_of_nmiHeld {s : State} (hp : s.nmiPending = true) (hh : s.nmiHeld = true)
    (hr : s.boundaryInput.resetRequest = false) : s.boundaryEvent = .nmi := by
  simp [State.boundaryEvent, State.eventFor, hp, hh, hr]

/-- The latch and the environment's choice for a BRK come to the instruction as they were sampled, and fairness has noted
the latch (R242; log 8, log 10). -/
theorem State.fetchDecode_beginInstruction {s u : State} {i : Instr}
    (hf : s.beginInstruction.fetchDecode = .ok (i, u)) :
    u.nmiPending = s.nmiPending ∧ u.nmiHeld = s.nmiPending ∧ u.brkNmi = s.brkNmi := by
  rw [State.fetchDecode_shape hf]
  exact ⟨rfl, rfl, rfl⟩

theorem captured_congr {i : Instr} {s u : State} (hp : u.nmiPending = s.nmiPending) (hb : u.brkNmi = s.brkNmi) :
    Captured i u ↔ Captured i s := by
  simp only [Captured, hp, hb]

/-- An instruction that is no captured BRK leaves the latch as it was sampled, and fairness remembers it (R34, R242). -/
theorem exec_nmi_of_fetch {s t u : State} {i : Instr} (hf : s.beginInstruction.fetchDecode = .ok (i, u))
    (hx : exec i u = .next t) (hc : ¬ Captured i s) : t.nmiPending = s.nmiPending ∧ t.nmiHeld = s.nmiPending := by
  obtain ⟨hp, hh, hb⟩ := State.fetchDecode_beginInstruction hf
  obtain ⟨tp, th⟩ := exec_nmi_of_not_captured hx (mt (captured_congr hp hb).1 hc)
  exact ⟨tp.trans hp, th.trans hh⟩

/-- A captured BRK leaves the latch clear (R34, R242). -/
theorem exec_nmi_of_fetch_captured {s t u : State} {i : Instr} (hf : s.beginInstruction.fetchDecode = .ok (i, u))
    (hx : exec i u = .next t) (hc : Captured i s) : t.nmiPending = false := by
  obtain ⟨hp, -, hb⟩ := State.fetchDecode_beginInstruction hf
  exact (exec_nmi_of_captured hx ((captured_congr hp hb).2 hc)).1

/-! ### Reset -/

/-- A word as the number its bytes make (R9). -/
theorem word_eq_ofNat (h l : Byte) : word h l = BitVec.ofNat 16 (h.toNat * 256 + l.toNat) := by
  rw [← word_toNat, BitVec.ofNat_toNat, BitVec.setWidth_eq]

theorem State.read16_draws_le (s : State) (a : Word) : s.draws ≤ (s.read16 a).2.draws :=
  (s.memRead_draws_le a).trans (State.memRead_draws_le _ _)

/-- The reset step draws A, X, Y, S and the five open flags, each at a count of its own (R270; log 4, log 6). -/
theorem State.resetStep_drawn (s : State) : DrawnRegisters s.draws s.resetStep := by
  have hd : s.draws + 9 ≤ s.resetStep.draws := s.resetRegisters.read16_draws_le resetVector
  refine ⟨s.draws + 5, s.draws + 6, s.draws + 7, s.draws + 8, s.draws, s.draws + 1, s.draws + 2, s.draws + 3,
    s.draws + 4, by simp, ?_, ?_⟩
  · simp only [List.forall_mem_cons, List.not_mem_nil, false_imp_iff, implies_true, and_true]
    omega
  · simp [State.resetStep, State.resetRegisters]

@[simp] theorem State.resetStep_p_i (s : State) : s.resetStep.p.i = true := by
  simp [State.resetStep, State.resetRegisters]

/-- The reset step loads PC from a stored reset vector, low byte first (R270, R54). -/
theorem State.resetStep_pc (s : State) (h0 : Stored s 0xFFFC#16) (h1 : Stored s 0xFFFD#16) :
    s.resetStep.pc = BitVec.ofNat 16 ((s.peek 0xFFFD#16).toNat * 256 + (s.peek 0xFFFC#16).toNat) := by
  have vector : s.resetRegisters.read16 resetVector = _ := State.read16_stored s.resetRegisters resetVector h0 h1
  rw [← word_eq_ofNat, State.resetStep, State.setPc_pc, vector]
  rfl

/-! ### The status byte -/

/-- The status byte bit by bit (R29). -/
theorem statusByte_getElem (p : Status) (b : Bool) :
    (statusByte p b)[7] = p.n ∧ (statusByte p b)[6] = p.v ∧ (statusByte p b)[5] = true ∧ (statusByte p b)[4] = b ∧
      (statusByte p b)[3] = p.d ∧ (statusByte p b)[2] = p.i ∧ (statusByte p b)[1] = p.z ∧
      (statusByte p b)[0] = p.c := by
  obtain ⟨n, v, d, i, z, c⟩ := p
  revert n v d i z c b
  decide

/-- The status byte as the sum of its bits (R29). -/
theorem statusByte_toNat (p : Status) (b : Bool) :
    (statusByte p b).toNat = p.n.toNat * 128 + p.v.toNat * 64 + 32 + b.toNat * 16 + p.d.toNat * 8 + p.i.toNat * 4 +
      p.z.toNat * 2 + p.c.toNat := by
  obtain ⟨n, v, d, i, z, c⟩ := p
  revert n v d i z c b
  decide

/-- SetStatus discards bits 5 and 4 (R30). -/
theorem setStatus_or_unused (v : Byte) : setStatus (v ||| 0x30#8) = setStatus v := by
  simp [setStatus]

/-- A pulled byte pushed again keeps its six flags, with bit 5 set and bit 4 as asked (R29, R30). -/
theorem statusByte_setStatus (v : Byte) (b : Bool) :
    statusByte (setStatus v) b = (v &&& 0xCF#8) ||| (0x20#8 ||| (if b then 0x10#8 else 0x00#8)) := by
  ext k hk
  interval_cases k <;> cases b <;> simp [statusByte_getElem, setStatus]

/-! ### Addresses -/

/-- A byte extended to an address lies in page 0 (R10, R50). -/
theorem zext_lt_page (b : Byte) : (zext b).toNat < 256 := by
  rw [zext_toNat]
  exact b.isLt

/-- The stack address as the sum of R31. -/
theorem stackAddr_eq_ofNat (b : Byte) : stackAddr b = BitVec.ofNat 16 (0x0100 + b.toNat) := by
  rw [← stackAddr_toNat, BitVec.ofNat_toNat, BitVec.setWidth_eq]

/-- On a RAM stack a pull after a push gives the byte back (R31). -/
theorem State.push_pull (s : State) (v : Byte) (hr : s.kindAt (stackAddr s.sp) = .ram) : (s.push v).pull.1 = v := by
  have back : (s.push v).sp + 1 = s.sp := by simp
  rw [State.pull_stored _ (by rw [back]; exact .inl (by simpa using hr)), back, s.push_peek_same v hr]

end Sys2Proof.Machine
end

section
/-! The statements about the state, what an instruction may write of it, and the reset, settled. -/

namespace Sys2Proof.Proofs.StateRules

open Sys2Proof.Machine

/-- Settles O7: each of the four kinds of step keeps the invariant. -/
theorem stepKeepsInvariant : Obligations.StepKeepsInvariant := by
  unfold Obligations.StepKeepsInvariant
  intro s t hs h
  have sampled := State.sampled_inv hs
  rcases step_cases h with ⟨-, hr⟩ | ⟨-, rfl⟩ | ⟨-, rfl⟩ | ⟨-, i, u, hf, hx⟩
  · exact State.takeReset_inv hr hs
  · exact State.enter_inv nmiVector sampled
  · exact State.enter_inv irqVector sampled
  · exact exec_inv hx (State.fetchDecode_inv hf (State.beginInstruction_inv sampled.1))

/-- Settles O8: memory lists nothing and no NMI is remembered. -/
theorem resetMeetsInvariant : Obligations.ResetMeetsInvariant :=
  ⟨Memory.reset_wf, id⟩

/-- Settles O13, by the flags each shared meaning leaves. -/
theorem unlistedFlagsUnchanged : Obligations.UnlistedFlagsUnchanged := by
  unfold Obligations.UnlistedFlagsUnchanged
  intro i s t h
  exact exec_flags h

/-- Settles O14, one register at a time. -/
theorem unlistedRegistersUnchanged : Obligations.UnlistedRegistersUnchanged := by
  unfold Obligations.UnlistedRegistersUnchanged
  intro i s t h
  exact ⟨exec_a h, exec_x h, exec_y h, exec_sp h⟩

/-- Settles O15, one field at a time; only the vector that a BRK takes decides about the latch. -/
theorem inputsUntouchedByInstructions : Obligations.InputsUntouchedByInstructions := by
  unfold Obligations.InputsUntouchedByInstructions
  intro i s t h
  exact ⟨exec_irqLine h, exec_inputs h, exec_memMap h, exec_irqHeld h, exec_brkNmi h, exec_nmi_of_not_captured h,
    exec_nmi_of_captured h, exec_irqLate h⟩

/-- Settles O16: every meaning that does not use D commutes with the choice of D. -/
theorem decimalModeAffectsOnlyAdcSbc : Obligations.DecimalModeAffectsOnlyAdcSbc := by
  unfold Obligations.DecimalModeAffectsOnlyAdcSbc
  intro i s d h
  exact exec_withD d s h

/-- Settles O49: the instruction leaves the latch as it was sampled unless it is a captured BRK, and fairness has noted a
pending NMI, which the next boundary therefore takes. -/
theorem pendingNmiTakenWithinTwoBoundaries : Obligations.PendingNmiTakenWithinTwoBoundaries := by
  unfold Obligations.PendingNmiTakenWithinTwoBoundaries
  refine ⟨fun s t u i hb hf h => ?_, fun s t hb hp h ht hr => ?_⟩
  · have hx : exec i u = .next t := (step_of_fetchDecode hb hf).symm.trans h
    refine ⟨fun hc => (exec_nmi_of_fetch hf hx hc).1, exec_nmi_of_fetch_captured hf hx, fun hc hp hr => ?_⟩
    obtain ⟨pending, held⟩ := exec_nmi_of_fetch hf hx hc
    exact State.boundaryEvent_of_nmiHeld (pending.trans hp) (held.trans hp) hr
  · obtain ⟨i, u, hf, hx⟩ := step_instruction hb h
    have hc : ¬ Claims.Captured i s.sampled := fun hc => by simp [exec_nmi_of_fetch_captured hf hx hc] at ht
    exact State.boundaryEvent_of_nmiHeld ht ((exec_nmi_of_fetch hf hx hc).2.trans hp) hr

/-- Settles O51: the step is the reset step on the sampled state, which has the draws and the memory of `s`. -/
theorem resetStepResult : Obligations.ResetStepResult := by
  unfold Obligations.ResetStepResult
  intro s hr hin
  have reset : step s = .next s.sampled.resetStep := by
    simp [step, State.boundaryEvent, State.eventFor, State.takeReset, hr, hin]
  exact ⟨_, reset, by simp, by simp, by simp, by simp, s.sampled.resetStep_drawn, s.sampled.resetStep_pc⟩

/-- Settles O21: an 8-bit sum extended to an address stays in page 0, and the stack address is 256 more than a byte. -/
theorem zeroPageAndStackConfined : Obligations.ZeroPageAndStackConfined := by
  unfold Obligations.ZeroPageAndStackConfined
  intro s b
  have hb := b.isLt
  refine ⟨zext_lt_page b, zext_lt_page (b + s.x), zext_lt_page (b + s.y), ?_, ?_⟩ <;> rw [stackAddr_toNat] <;> omega

/-- Settles O37, from the status byte bit by bit. -/
theorem statusByteLayout : Obligations.StatusByteLayout := by
  unfold Obligations.StatusByteLayout
  intro p b v
  exact ⟨statusByte_toNat p b, setStatus_statusByte p b, (setStatus_or_unused v).symm, statusByte_setStatus v b⟩

/-- Settles O38: both operations are their definitions, and a pushed byte lies where S pointed. -/
theorem pushAndPull : Obligations.PushAndPull := by
  unfold Obligations.PushAndPull
  intro s v
  refine ⟨stackAddr_eq_ofNat s.sp, ?_, rfl, fun hr => ⟨s.push_pull v hr, by simp⟩⟩
  rw [State.push, State.memWrite_sp]
  rfl

/-- Settles O53: the map of State.reset is all RAM, and its memory lists nothing. -/
theorem resetStateMeetsSpec : Obligations.ResetStateMeetsSpec := by
  unfold Obligations.ResetStateMeetsSpec
  refine ⟨rfl, rfl, ?_, fun a => Memory.read_unwritten (by simp [State.reset])⟩
  rw [State.read16_stored State.reset 0xFFFC#16 (.inl rfl) (.inl rfl)]
  rfl

end Sys2Proof.Proofs.StateRules
end

section
/-! SUPPORT. The bytes a step stores: each lies in RAM after the step, and stays while no step stores to its address. -/

namespace Sys2Proof.Machine

open Sys2Proof.Claims (storedBytes rewritten entryBytes stepStores ReachedLeaving Seen)

/-! ### What a shift or a count makes of a byte, modulo 256 -/

theorem shiftLeft_eq_ofNat (old : Byte) : shiftLeft old = BitVec.ofNat 8 (2 * old.toNat) := by
  unfold shiftLeft
  bv_omega

theorem shiftRight_eq_ofNat (old : Byte) : shiftRight old = BitVec.ofNat 8 (old.toNat / 2) := by
  unfold shiftRight
  bv_omega

theorem setWidth_ofBool (c : Bool) : (BitVec.ofBool c).setWidth 8 = BitVec.ofNat 8 c.toNat := by
  cases c <;> rfl

/-- The bit rotated in meets a 0, so that the disjunction is a sum (R162). -/
theorem rotateLeft_eq_ofNat (c : Bool) (old : Byte) :
    rotateLeft c old = BitVec.ofNat 8 (2 * old.toNat + c.toNat) := by
  have disjoint : (old <<< 1) &&& (BitVec.ofBool c).setWidth 8 = 0#8 := by
    cases c <;> ext k hk <;> simp +contextual
  rw [rotateLeft, ← BitVec.add_eq_or_of_and_eq_zero _ _ disjoint, setWidth_ofBool]
  bv_omega

/-- The bit rotated in meets a 0, so that the disjunction is a sum (R163). -/
theorem rotateRight_eq_ofNat (c : Bool) (old : Byte) :
    rotateRight c old = BitVec.ofNat 8 (old.toNat / 2 + 128 * c.toNat) := by
  have disjoint : (old >>> 1) &&& ((BitVec.ofBool c).setWidth 8 <<< 7) = 0#8 := by
    ext k hk
    interval_cases k <;> cases c <;> simp
  rw [rotateRight, ← BitVec.add_eq_or_of_and_eq_zero _ _ disjoint, setWidth_ofBool]
  bv_omega

theorem ofNat_toNat_add_one (old : Byte) : BitVec.ofNat 8 (old.toNat + 1) = old + 1 := by
  bv_omega

theorem ofNat_toNat_add_255 (old : Byte) : BitVec.ofNat 8 (old.toNat + 255) = old - 1 := by
  bv_omega

/-! ### Which bytes an instruction stores -/

/-- `storedBytes` names the addresses of `storesTo`, in its order: the two definitions have the same branches. -/
theorem storedBytes_map_fst (i : Instr) (s : State) : (storedBytes i s).map Prod.fst = storesTo i s := by
  unfold storedBytes storesTo
  generalize i.mnemonic = mnemonic
  generalize i.operand = operand
  split <;> simp [rewritten]

/-- A shift or rotate of memory stores the old byte moved (R160 to R163, R166). -/
theorem storedBytes_shift {i : Instr} {s : State} {m : MemForm} {f : Byte → Byte} {out : Byte → Bool}
    (hm : (i.mnemonic, f, out) ∈ [(.asl, shiftLeft, bit7), (.lsr, shiftRight, bit0),
      (.rol, rotateLeft s.p.c, bit7), (.ror, rotateRight s.p.c, bit0)])
    (ho : i.operand = .data (.mem m)) :
    storedBytes i s =
      [((effAddr m (s.advance (memLength m))).1, f (readMem m (s.advance (memLength m))).1)] := by
  simp only [List.mem_cons, List.not_mem_nil, or_false, Prod.mk.injEq] at hm
  rcases hm with ⟨h, rfl, -⟩ | ⟨h, rfl, -⟩ | ⟨h, rfl, -⟩ | ⟨h, rfl, -⟩ <;>
    simp [storedBytes, rewritten, readMem, h, ho, shiftLeft_eq_ofNat, shiftRight_eq_ofNat, rotateLeft_eq_ofNat,
      rotateRight_eq_ofNat]

/-- INC and DEC store the old byte counted up or down (R164, R165, R166). -/
theorem storedBytes_incDec {i : Instr} {s : State} {m : MemForm} {f : Byte → Byte}
    (hm : (i.mnemonic, f) ∈ [(.inc, (· + 1)), (.dec, (· - 1))]) (ho : i.operand = .data (.mem m)) :
    storedBytes i s =
      [((effAddr m (s.advance (memLength m))).1, f (readMem m (s.advance (memLength m))).1)] := by
  simp only [List.mem_cons, List.not_mem_nil, or_false, Prod.mk.injEq] at hm
  rcases hm with ⟨h, rfl⟩ | ⟨h, rfl⟩
  · simp [storedBytes, rewritten, readMem, h, ho, ofNat_toNat_add_one]
  · simp [storedBytes, rewritten, readMem, h, ho, ofNat_toNat_add_255]

/-- A family outside the stores, the read-modify-write instructions and the pushes stores nothing. -/
theorem storedBytes_of_family {α : Type} {i : Instr} {s : State} {a : α} {l : List (Mnemonic × α)}
    (hm : (i.mnemonic, a) ∈ l)
    (h : ∀ k ∈ l.map Prod.fst, k ∉ [Mnemonic.sta, .stx, .sty, .asl, .lsr, .rol, .ror, .inc, .dec, .jsr, .brk, .php,
      .pha]) : storedBytes i s = [] := by
  have := mnemonic_of_family hm h
  unfold storedBytes
  split <;> simp_all

/-- The ACCUM. form of a shift or rotate stores nothing (R120, R166). -/
theorem storedBytes_shiftAcc {i : Instr} {s : State} (hm : i.mnemonic ∈ [.asl, .lsr, .rol, .ror])
    (ho : i.operand = .acc) : storedBytes i s = [] := by
  simp only [List.mem_cons, List.not_mem_nil, or_false] at hm
  rcases hm with h | h | h | h <;> simp [storedBytes, h, ho]

/-! ### A byte stored to RAM lies there -/

section
variable (s : State) (v : Byte)

theorem writeMem_peek_same (m : MemForm) (hr : s.kindAt (effAddr m s).1 = .ram) :
    (writeMem m v s).peek (effAddr m s).1 = v := by
  simpa [writeMem] using State.memWrite_peek_same (effAddr m s).2 _ v (by simpa using hr)

theorem modifyMem_peek_same (m : MemForm) (f : Byte → Byte) (hr : s.kindAt (effAddr m s).1 = .ram) :
    (modifyMem m f s).2.peek (effAddr m s).1 = f (readMem m s).1 :=
  State.memWrite_peek_same (readMem m s).2 _ _ (by simpa [readMem] using hr)

theorem opShift_peek_same (f : Byte → Byte) (out : Byte → Bool) (m : MemForm)
    (hr : s.kindAt (effAddr m (s.advance (memLength m))).1 = .ram) :
    (opShift f out (.mem m) s).peek (effAddr m (s.advance (memLength m))).1 =
      f (readMem m (s.advance (memLength m))).1 := by
  simpa [opShift, modifyPlace] using modifyMem_peek_same (s.advance (memLength m)) m f hr

theorem opIncDec_peek_same (f : Byte → Byte) (m : MemForm)
    (hr : s.kindAt (effAddr m (s.advance (memLength m))).1 = .ram) :
    (opIncDec f m s).peek (effAddr m (s.advance (memLength m))).1 = f (readMem m (s.advance (memLength m))).1 := by
  simpa [opIncDec] using modifyMem_peek_same (s.advance (memLength m)) m f hr

/-- Each byte of a pushed word lies in RAM, whatever the map says of the other (R54, R172). -/
theorem State.pushWord_peek_of_mem (w : Word) {a : Word}
    (h : (a, v) ∈ [(stackAddr s.sp, hi w), (stackAddr (s.sp - 1), lo w)]) (hr : s.kindAt a = .ram) :
    (s.pushWord w).peek a = v := by
  simp only [List.mem_cons, List.not_mem_nil, or_false, Prod.mk.injEq] at h
  obtain ⟨rfl, rfl⟩ | ⟨rfl, rfl⟩ := h
  · have below : s.sp ≠ s.sp - 1 := by bv_omega
    rw [State.pushWord, State.push_peek_other _ _ (by simpa using below), s.push_peek_same _ hr]
  · simpa [State.pushWord] using (s.push (hi w)).push_peek_same (lo w) (by simpa using hr)

/-- Each byte that an exception pushes lies in RAM, whatever the map says of the others (R176, R236). -/
theorem State.takeException_peek_of_mem (ret : Word) (brk : Bool) (vector : Word) {a : Word}
    (h : (a, v) ∈ [(stackAddr s.sp, hi ret), (stackAddr (s.sp - 1), lo ret),
      (stackAddr (s.sp - 2), statusByte s.p brk)]) (hr : s.kindAt a = .ram) :
    (s.takeException ret brk vector).peek a = v := by
  have pushed : (s.takeException ret brk vector).peek a = ((s.pushWord ret).push (statusByte s.p brk)).peek a := by
    simp [State.takeException]
  rw [pushed]
  by_cases e : a = stackAddr (s.sp - 2)
  · subst e
    have apart : s.sp - 2 ≠ s.sp := by bv_omega
    obtain rfl : v = statusByte s.p brk := by simpa [apart] using h
    simpa using (s.pushWord ret).push_peek_same (statusByte s.p brk) (by simpa using hr)
  · rw [State.push_peek_other _ _ (by simpa using e)]
    refine s.pushWord_peek_of_mem v ret ?_ hr
    simpa only [List.mem_cons, List.not_mem_nil, Prod.mk.injEq, e, false_and, or_false] using h

end

/-- A byte that an instruction stores to RAM lies there when it completes (R53, R62). -/
theorem exec_peek_stored {i : Instr} {s t : State} {a : Word} {v : Byte} (h : exec i s = .next t)
    (hv : (a, v) ∈ storedBytes i s) (hr : s.kindAt a = .ram) : t.peek a = v := by
  cases execCase_of_next h with
  | sta m hm ho | stx m hm ho | sty m hm ho =>
    obtain ⟨rfl, rfl⟩ : a = _ ∧ v = _ := by simpa [storedBytes, hm, ho] using hv
    exact writeMem_peek_same (s.advance (memLength m)) _ m hr
  | shiftMem f out m hm ho =>
    obtain ⟨rfl, rfl⟩ : a = _ ∧ v = _ := by simpa [storedBytes_shift hm ho] using hv
    exact opShift_peek_same s f out m hr
  | incDec f m hm ho =>
    obtain ⟨rfl, rfl⟩ : a = _ ∧ v = _ := by simpa [storedBytes_incDec hm ho] using hv
    exact opIncDec_peek_same s f m hr
  | jsr target hm =>
    have ret : (s.advance 3).pc - 1 = s.pc + 2 := by simp only [State.advance_pc]; bv_omega
    refine State.pushWord_peek_of_mem (s.advance 3) v _ ?_ hr
    rw [ret]
    simpa [storedBytes, hm] using hv
  | brk hm => exact State.takeException_peek_of_mem (s.advance 1) v _ _ _ (by simpa [storedBytes, hm] using hv) hr
  | php hm | pha hm =>
    obtain ⟨rfl, rfl⟩ : a = _ ∧ v = _ := by simpa [storedBytes, hm] using hv
    exact State.push_peek_same (s.advance 1) _ hr
  | shiftAcc f out hm ho =>
    simp [storedBytes_shiftAcc (mnemonic_of_family (P := (· ∈ _)) hm fun _ hk => hk) ho] at hv
  | logic _ _ hm | compare _ _ hm | toX _ hm | toY _ hm | toA _ hm | flag _ hm | branch _ _ hm =>
    simp [storedBytes_of_family hm (by simp)] at hv
  | lda _ hm | ldx _ hm | ldy _ hm | bit _ hm | adc _ hm | sbc _ hm | jmpAbs _ hm | jmpInd _ hm | rts hm | rti hm
  | plp hm | pla hm | txs hm | sei hm | nop hm => simp [storedBytes, hm] at hv

/-- A byte that an interrupt entry pushes to RAM lies there after it (R236). -/
theorem State.enter_peek_stored (s : State) (vector : Word) {a : Word} {v : Byte} (hv : (a, v) ∈ entryBytes s)
    (hr : s.kindAt a = .ram) : (s.enter vector).peek a = v :=
  s.takeException_peek_of_mem v s.pc false vector hv hr

/-! ### Where a step stores -/

theorem stepStores_of_instruction {s u : State} {i : Instr} (hb : s.boundaryEvent = .instruction)
    (hf : s.sampled.beginInstruction.fetchDecode = .ok (i, u)) : stepStores s = storesTo i u := by
  simp [stepStores, hb, hf]

theorem stepStores_of_entry {s : State} (hb : s.boundaryEvent = .nmi ∨ s.boundaryEvent = .irq) :
    stepStores s = [stackAddr s.sp, stackAddr (s.sp - 1), stackAddr (s.sp - 2)] := by
  rcases hb with hb | hb <;> simp [stepStores, entryBytes, hb]

theorem stepStores_of_resetInside {s u : State} {i : Instr} (hb : s.boundaryEvent = .reset)
    (hin : s.boundaryInput.resetInside = true) (hf : s.sampled.fetchDecode = .ok (i, u)) :
    stepStores s = storesTo i u := by
  simp [stepStores, hb, hin, hf]

/-- A step changes memory only where it stores (R62, R236, R250): the frame of a step names the addresses of
`stepStores` at each kind of boundary. -/
theorem step_peek_other {s t : State} {a : Word} (h : step s = .next t) (ha : a ∉ stepStores s) :
    t.peek a = s.peek a := by
  by_contra hne
  apply ha
  rcases Proofs.Scope.stepMemoryFrame s t a h hne with
    ⟨hb, i, u, hf, hm⟩ | ⟨hb, hm⟩ | ⟨hb, hin, i, u, hf, hm⟩
  · rwa [stepStores_of_instruction hb hf]
  · rwa [stepStores_of_entry hb]
  · rwa [stepStores_of_resetInside hb hin hf]

/-- Along steps of which none stores to an address, what stands there and its byte stay. -/
theorem reachedLeaving_keeps {a : Word} {t u : State} (h : ReachedLeaving a t u) :
    u.kindAt a = t.kindAt a ∧ u.peek a = t.peek a := by
  induction h with
  | refl => exact ⟨rfl, rfl⟩
  | step _ ha hs ih =>
    obtain ⟨kind, byte⟩ := ih
    have map := (Proofs.Scope.romAndMapNeverChange _ _ hs).1
    exact ⟨(State.kindAt_congr map a).trans kind, (step_peek_other hs ha).trans byte⟩

/-! ### A byte of RAM is seen by reads and fetches -/

/-- Reads and fetches of a RAM address give its byte (R52, R65). -/
theorem seen_of_ram {u : State} {a : Word} (hr : u.kindAt a = .ram) : Seen a (u.peek a) u := by
  refine ⟨u.memRead_stored a (.inl hr), ?_⟩
  rintro b k rfl hk
  exact State.fetchInstruction_stored k (u.setPc b) hk (.inl hr)

/-- A byte in RAM is seen until a step stores to its address (R62, R65). -/
theorem seen_of_reachedLeaving {t u : State} {a : Word} {v : Byte} (hr : t.kindAt a = .ram) (hv : t.peek a = v)
    (h : ReachedLeaving a t u) : Seen a v u := by
  obtain ⟨kind, byte⟩ := reachedLeaving_keeps h
  rw [← hv, ← byte]
  exact seen_of_ram (kind.trans hr)

end Sys2Proof.Machine
end

section
/-! The statement about a stored byte and the reads and fetches after it, settled. -/

namespace Sys2Proof.Proofs.StoredBytes

open Sys2Proof.Machine

/-- Settles O19: the stored byte lies in RAM after the instruction or the entry, every step that stores elsewhere leaves
it, and a read or fetch of RAM gives the byte that lies there. -/
theorem storeIsSeenByNextFetch : Obligations.StoreIsSeenByNextFetch := by
  unfold Obligations.StoreIsSeenByNextFetch
  refine ⟨storedBytes_map_fst, fun i s t u a v h hv hr hu => ?_, fun s t u a v hb h hv hr hu => ?_⟩
  · have kind : t.kindAt a = .ram := (State.kindAt_congr (exec_memMap h) a).trans hr
    exact seen_of_reachedLeaving kind (exec_peek_stored h hv hr) hu
  · have map := (Proofs.Scope.romAndMapNeverChange s t h).1
    have byte : t.peek a = v := by
      rcases step_cases h with ⟨e, -⟩ | ⟨-, rfl⟩ | ⟨-, rfl⟩ | ⟨e, -⟩
      · simp [e] at hb
      · exact s.sampled.enter_peek_stored nmiVector hv hr
      · exact s.sampled.enter_peek_stored irqVector hv hr
      · simp [e] at hb
    exact seen_of_reachedLeaving ((State.kindAt_congr map a).trans hr) byte hu

end Sys2Proof.Proofs.StoredBytes
end

section
/-! SUPPORT. The cells of the grid of R84 as the encoder sees them, what the decoder accepts and refuses, and which
opcode bytes the grid leaves out. -/

namespace Sys2Proof.Machine

/-! ### The grid and the encoder -/

/-- The format `f` makes the instruction `i` from the operand bytes `l`, a word low byte first (R55, R81, R83). -/
inductive FormReads : Form → Instr → List Byte → Prop
  | f1 (i : Instr) : FormReads (.f1 i) i []
  | f2 (mk : Byte → Instr) (b : Byte) : FormReads (.f2 mk) (mk b) [b]
  | f3 (mk : Word → Instr) (w : Word) : FormReads (.f3 mk) (mk w) [lo w, hi w]

/-- In every cell of the grid of R84 the encoder gives back the opcode and the operand bytes (R85 to R87). -/
theorem opcodeTable_encode : ∀ r ∈ opcodeTable, ∀ i l, FormReads r.form i l → encode i = r.opcode :: l := by
  simp only [opcodeTable, opcodeRow0, opcodeRow1, opcodeRow2, opcodeRow3, opcodeRow4, opcodeRow5, opcodeRow6,
    opcodeRow7, opcodeRow8, opcodeRow9, opcodeRowA, opcodeRowB, opcodeRowC, opcodeRowD, opcodeRowE, opcodeRowF,
    List.forall_mem_append, List.forall_mem_cons, List.not_mem_nil, false_imp_iff, implies_true, and_true]
  and_intros <;> rintro _ _ ⟨⟩ <;> rfl

/-- The encoder gives back the bytes from which the grid makes an instruction (R84 to R87). -/
theorem encode_of_formReads {opc : Byte} {f : Form} {i : Instr} {l : List Byte} (hf : formOf opc = some f)
    (hr : FormReads f i l) : encode i = opc :: l := by
  obtain ⟨r, found, rfl⟩ := Option.map_eq_some_iff.1 hf
  have same : r.opcode = opc := by simpa using List.find?_some found
  rw [← same]
  exact opcodeTable_encode r (List.mem_of_find?_eq_some found) i l hr

/-- Every instruction has its cell: the grid makes it from its own opcode and operand bytes (R84 to R87). The opcode is
evaluated first, so that the search in the grid compares closed bytes. -/
theorem formOf_opcode_reads (i : Instr) : ∃ f, formOf i.opcode = some f ∧ FormReads f i i.operand.bytes := by
  cases i <;> dsimp only [Instr.opcode, Instr.operand, Operand.bytes] <;> refine ⟨_, rfl, ?_⟩ <;> constructor

/-! ### The decoder -/

/-- The decoder accepts exactly an opcode of the grid, then the operand bytes its format reads, then any rest (R80, R83,
R84). -/
theorem decode_eq_ok_iff {bytes rest : List Byte} {i : Instr} :
    decode bytes = .ok (i, rest) ↔
      ∃ opc f l, formOf opc = some f ∧ FormReads f i l ∧ bytes = opc :: (l ++ rest) := by
  constructor
  · intro h
    unfold decode at h
    split at h
    · cases h
    · next opc _ =>
      split at h
      · cases h
      · next hf => cases h; exact ⟨opc, _, [], hf, .f1 i, rfl⟩
      · next mk b _ hf => cases h; exact ⟨opc, _, [b], hf, .f2 mk b, rfl⟩
      · next mk b1 b2 _ hf => cases h; exact ⟨opc, _, _, hf, .f3 mk (word b2 b1), by simp⟩
      · cases h
  · rintro ⟨opc, f, l, hf, hr, rfl⟩
    cases hr <;> simp [decode, hf]

/-- The decoder refuses bytes that begin with an opcode the grid leaves out (R95). -/
theorem decode_of_formOf_none {opc : Byte} (h : formOf opc = none) (l : List Byte) :
    decode (opc :: l) = .error (.undefinedOpcode opc) := by
  simp only [decode, h]

/-- A fetch that meets an opcode the grid leaves out is the fault with that byte and its address (R95). -/
theorem State.fetchDecode_of_formOf_none {s : State} (h : formOf (s.memRead s.pc).1 = none) :
    s.fetchDecode = .error (.undefinedOpcode (s.memRead s.pc).1 s.pc) := by
  simp only [State.fetchDecode, State.fetchInstruction, decode_of_formOf_none h]

/-- At a boundary that leads to an instruction, the step faults where PC fetches an opcode the grid leaves out (R95). -/
theorem step_of_formOf_none {s : State} (hb : s.boundaryEvent = .instruction)
    (h : formOf (s.sampled.beginInstruction.memRead s.pc).1 = none) :
    step s = .fault (.undefinedOpcode (s.sampled.beginInstruction.memRead s.pc).1 s.pc) := by
  have refused := State.fetchDecode_of_formOf_none (s := s.sampled.beginInstruction) h
  simp only [step, hb, State.runInstruction, refused]
  rfl

/-! ### The undefined opcodes -/

/-- The grid leaves an opcode out when none of its cells has it (R84). -/
theorem formOf_eq_none_iff (opc : Byte) : formOf opc = none ↔ opc.toNat ∉ opcodeTable.map (·.opcode.toNat) := by
  simp [formOf, BitVec.toNat_inj]

/-- The list of R95 is what the grid of R84 leaves of the 256 bytes, in rising order. -/
theorem undefinedOpcodes_toNat :
    Claims.undefinedOpcodes.map BitVec.toNat =
      (List.range 256).filter (· ∉ opcodeTable.map (·.opcode.toNat)) := by decide

theorem undefinedOpcodes_nodup : Claims.undefinedOpcodes.Nodup := by
  apply List.Nodup.of_map BitVec.toNat
  rw [undefinedOpcodes_toNat]
  exact List.nodup_range.filter _

/-- The grid leaves out the opcodes of R95 and no other. -/
theorem formOf_eq_none_iff_mem (opc : Byte) : formOf opc = none ↔ opc ∈ Claims.undefinedOpcodes := by
  have inj : Function.Injective (BitVec.toNat (w := 8)) := fun _ _ => BitVec.eq_of_toNat_eq
  rw [formOf_eq_none_iff, ← List.mem_map_of_injective inj, undefinedOpcodes_toNat, List.mem_filter, List.mem_range,
    decide_eq_true_iff, and_iff_right opc.isLt]

end Sys2Proof.Machine
end

section
/-! The statements about the encoding, settled. -/

namespace Sys2Proof.Proofs.Encoding

open Sys2Proof.Machine

/-- Settles O1: the decoder accepts a cell of the grid with its operand bytes and any rest; the encoder gives back those
bytes, and every instruction has its cell. -/
theorem decodeEncodeAgree : Obligations.DecodeEncodeAgree := by
  unfold Obligations.DecodeEncodeAgree
  intro bytes rest i
  rw [decode_eq_ok_iff]
  constructor
  · rintro ⟨opc, f, l, hf, hr, rfl⟩
    rw [encode_of_formReads hf hr, List.cons_append]
  · rintro rfl
    obtain ⟨f, hf, hr⟩ := formOf_opcode_reads i
    exact ⟨i.opcode, f, i.operand.bytes, hf, hr, rfl⟩

/-- Settles O2: each word is the encoding of its instruction and what is left over. -/
theorem wordsOfTheCardDecode : Obligations.WordsOfTheCardDecode := by
  unfold Obligations.WordsOfTheCardDecode
  and_intros <;> exact (decodeEncodeAgree _ _ _).2 rfl

/-- Settles O3: the listed bytes are those the grid leaves out, and a fetch that meets one is refused by the decoder. -/
theorem undefinedOpcodesFault : Obligations.UndefinedOpcodesFault := by
  unfold Obligations.UndefinedOpcodesFault
  refine ⟨rfl, undefinedOpcodes_nodup, formOf_eq_none_iff_mem, fun s hb undefined => ?_⟩
  exact step_of_formOf_none hb ((formOf_eq_none_iff_mem _).2 undefined)

end Sys2Proof.Proofs.Encoding
end

section
/-! SUPPORT. The addressing modes: which modes an instruction can have, the sums that the indexed modes form, and the
effective address of each mode as the number R112 to R119 give. -/

namespace Sys2Proof.Machine

/-! ### The mode of an instruction -/

/-- The operand of every instruction has a mode that R125 gives its mnemonic. -/
theorem mode_mem_modes (i : Instr) : i.operand.mode ∈ i.mnemonic.modes := by
  have available : i.wellFormed = true := by cases i <;> rfl
  simpa [Instr.wellFormed, modeAvailable] using available

/-- The mnemonics to which R125 gives an immediate form (R111). -/
theorem mnemonic_of_imm_mem_modes {m : Mnemonic} (h : .imm ∈ m.modes) :
    m ∈ [.lda, .ldx, .ldy, .and, .ora, .eor, .cmp, .cpx, .cpy, .adc, .sbc] := by
  revert h; cases m <;> decide

/-- Only LDX and STX are indexed by Y in page 0 (R114). -/
theorem eq_of_mode_zpy {i : Instr} (h : i.operand.mode = .zpy) : ∃ b, i = .ldxZpy b ∨ i = .stxZpy b := by
  cases i with
  | ldxZpy b => exact ⟨b, .inl rfl⟩
  | stxZpy b => exact ⟨b, .inr rfl⟩
  | _ => cases h

/-! ### The sums of the indexed modes -/

/-- A byte extended to an address is its number (R10). -/
theorem zext_eq_ofNat (b : Byte) : zext b = BitVec.ofNat 16 b.toNat :=
  (BitVec.ofNat_toNat 16 b).symm

/-- An index added in page 0 wraps there (R113, R114, R118). -/
theorem zext_add_eq_ofNat (b c : Byte) : zext (b + c) = BitVec.ofNat 16 ((b.toNat + c.toNat) % 256) := by
  rw [zext_eq_ofNat, BitVec.toNat_add]

/-- An index added to a word is a 16-bit sum (R116, R117). -/
theorem word_add_zext (h l x : Byte) :
    word h l + zext x = BitVec.ofNat 16 ((h.toNat * 256 + l.toNat + x.toNat) % 65536) := by
  apply BitVec.eq_of_toNat_eq
  rw [BitVec.toNat_add, word_toNat, zext_toNat, BitVec.toNat_ofNat, Nat.mod_mod]

/-- The 16-bit sum byte by byte: the low bytes add, and their carry goes into the high byte (R119). -/
theorem word_add_zext_carry (h l x : Byte) :
    word h l + zext x =
      BitVec.ofNat 16 ((h.toNat + (l.toNat + x.toNat) / 256) % 256 * 256 + (l.toNat + x.toNat) % 256) := by
  rw [word_add_zext]
  congr 1
  omega

/-- The high byte of an indexed address is that of the base plus the carry of the low bytes (R119, R124). -/
theorem hi_add_zext_toNat (w : Word) (x : Byte) :
    (hi (w + zext x)).toNat = ((hi w).toNat + ((lo w).toNat + x.toNat) / 256) % 256 := by
  rw [hi_toNat, hi_toNat, lo_toNat, BitVec.toNat_add, zext_toNat]
  omega

/-- The carry of the low bytes is one exactly when it moves the high byte, since one page more is never the same page
modulo 256 (R124). -/
theorem pageCrossed_iff_carry (base : Word) (index : Byte) :
    pageCrossed base index = true ↔ (lo base).toNat + index.toNat > 0xFF := by
  have carried := hi_add_zext_toNat base index
  have hLo := (lo base).isLt
  have hHi := (hi base).isLt
  have hIndex := index.isLt
  rw [pageCrossed, decide_eq_true_iff, ne_eq, ← BitVec.toNat_inj, carried]
  omega

/-! ### The effective addresses -/

/-- ReadZP16 reads the low byte, then the high byte at the next address modulo 256 (R11). -/
theorem State.readZp16_eq (s : State) (z : Byte) :
    s.readZp16 z =
      let l := s.memRead (zext z)
      let h := l.2.memRead (BitVec.ofNat 16 ((z.toNat + 1) % 256))
      (word h.1 l.1, h.2) := by
  rw [State.readZp16, zext_add_eq_ofNat z 1]
  rfl

/-- (IND,X): the pointer lies in page 0 at the 8-bit sum of the operand byte and X (R118). -/
theorem effAddr_indx (b : Byte) (s : State) :
    let z := (b.toNat + s.x.toNat) % 256
    let l := s.memRead (BitVec.ofNat 16 z)
    let h := l.2.memRead (BitVec.ofNat 16 ((z + 1) % 256))
    effAddr (.indx b) s = (BitVec.ofNat 16 (l.1.toNat + h.1.toNat * 256), h.2) := by
  intro z l h
  have pointer : (b + s.x).toNat = z := BitVec.toNat_add b s.x
  have joined : word h.1 l.1 = BitVec.ofNat 16 (l.1.toNat + h.1.toNat * 256) := by rw [word_eq_ofNat, Nat.add_comm]
  rw [effAddr, State.readZp16_eq, zext_eq_ofNat, pointer, ← joined]

/-- (IND,Y): Y is added to the word the pointer in page 0 reads, with the carry of the low bytes (R119). -/
theorem effAddr_indy (b : Byte) (s : State) :
    let l := s.memRead (BitVec.ofNat 16 b.toNat)
    let h := l.2.memRead (BitVec.ofNat 16 ((b.toNat + 1) % 256))
    let loSum := l.1.toNat + s.y.toNat
    effAddr (.indy b) s = (BitVec.ofNat 16 ((h.1.toNat + loSum / 256) % 256 * 256 + loSum % 256), h.2) := by
  intro l h loSum
  rw [effAddr, State.readZp16_eq, zext_eq_ofNat b, word_add_zext_carry]

end Sys2Proof.Machine
end

section
/-! The statements about the addressing modes and where an instruction stores, settled. -/

namespace Sys2Proof.Proofs.AddressingModes

open Sys2Proof.Machine

/-- Settles O10, by the frame that the families of instructions share. -/
theorem memoryChangesOnlyAtStores : Obligations.MemoryChangesOnlyAtStores := by
  unfold Obligations.MemoryChangesOnlyAtStores
  intro i s t h a ha
  exact exec_peek_other h ha

/-- Settles O20: the modes an instruction can have are R125's, and each effective address is the sum its mode forms. -/
theorem effectiveAddresses : Obligations.EffectiveAddresses := by
  unfold Obligations.EffectiveAddresses
  refine ⟨fun s b => rfl, fun s m => rfl, fun i hi => ?imm, by decide, by decide, fun i hi => ?zpy,
    fun s b1 b2 => ⟨?zp, ?zpx, ?zpyAddr, ?abs, ?absx, ?absy, effAddr_indx b1 s, effAddr_indy b1 s⟩⟩
  case imm => exact mnemonic_of_imm_mem_modes (hi ▸ mode_mem_modes i)
  case zpy =>
    obtain ⟨b, rfl | rfl⟩ := eq_of_mode_zpy hi
    · exact .inl ⟨rfl, rfl⟩
    · exact .inr ⟨rfl, rfl⟩
  case zp => rw [effAddr, zext_eq_ofNat]
  case zpx | zpyAddr => rw [effAddr, zext_add_eq_ofNat]
  case abs => rw [effAddr, word_eq_ofNat]
  case absx | absy => rw [effAddr, word_add_zext]

/-- Settles O22: the high byte moves exactly by the carry. -/
theorem pageCrossedIffCarry : Obligations.PageCrossedIffCarry := by
  unfold Obligations.PageCrossedIffCarry
  exact pageCrossed_iff_carry

end Sys2Proof.Proofs.AddressingModes
end

section
/-! SUPPORT. The rules' "Encodings" lines: which instructions a mnemonic has, read off from the grid of R84, and how
many cycles each takes. -/

namespace Sys2Proof.Machine

open Sys2Proof.Claims (Encoding EncodingsAre crossesPage)

/-! ### One instruction for each cell of the grid -/

/-- An instruction of a cell of the grid of R84, its operand bytes zero. -/
def sampleOf : Form → Instr
  | .f1 i => i
  | .f2 mk => mk 0x00#8
  | .f3 mk => mk 0x0000#16

/-- One instruction for each cell of the grid of R84 that holds the mnemonic. -/
def samples (m : Mnemonic) : List Instr := (opcodeTable.map fun r => sampleOf r.form).filter (·.mnemonic = m)

/-- Two instructions of one row of the opcode table: they differ in their operand bytes alone (R83, R89). -/
def SameRow (i j : Instr) : Prop :=
  i.mnemonic = j.mnemonic ∧ i.operand.mode = j.operand.mode ∧ i.opcode = j.opcode

/-- The operand bytes choose neither the mnemonic, nor the mode, nor the opcode of what the grid makes in a cell (R83,
R84). -/
theorem opcodeTable_sameRow : ∀ r ∈ opcodeTable, ∀ i l, FormReads r.form i l → SameRow i (sampleOf r.form) := by
  simp only [opcodeTable, opcodeRow0, opcodeRow1, opcodeRow2, opcodeRow3, opcodeRow4, opcodeRow5, opcodeRow6,
    opcodeRow7, opcodeRow8, opcodeRow9, opcodeRowA, opcodeRowB, opcodeRowC, opcodeRowD, opcodeRowE, opcodeRowF,
    List.forall_mem_append, List.forall_mem_cons, List.not_mem_nil, false_imp_iff, implies_true, and_true]
  and_intros <;> rintro _ _ ⟨⟩ <;> exact ⟨rfl, rfl, rfl⟩

/-- Every instruction is of the row of a sample of its mnemonic, that of its own cell. -/
theorem exists_sample (i : Instr) : ∃ j ∈ samples i.mnemonic, SameRow i j := by
  obtain ⟨f, found, reads⟩ := formOf_opcode_reads i
  obtain ⟨r, hr, rfl⟩ := Option.map_eq_some_iff.1 found
  have cell : r ∈ opcodeTable := List.mem_of_find?_eq_some hr
  obtain ⟨mnemonic, modeAndOpcode⟩ := opcodeTable_sameRow r cell i _ reads
  refine ⟨sampleOf r.form, List.mem_filter.2 ⟨List.mem_map_of_mem cell, ?_⟩, mnemonic, modeAndOpcode⟩
  exact decide_eq_true mnemonic.symm

/-! ### The cycles of an instruction -/

/-- The modes whose effective address is a word plus an index, which may carry into another page (R116, R117, R119). -/
def indexesWord : Mode → Bool
  | .absx | .absy | .indy => true
  | _ => false

/-- Only an operand whose mode adds an index to a word crosses a page (R124). -/
theorem indexesWord_of_crossesPage {i : Instr} {s : State} (h : crossesPage i s = true) :
    indexesWord i.operand.mode = true := by
  unfold crossesPage at h
  split at h
  case h_4 => cases h
  all_goals next ho => rw [ho]; rfl

/-- The extra cycle of a memory operand is that of R124's carry (R124, R276). -/
theorem pageCycles_eq {i : Instr} {m : MemForm} (s : State) (ho : i.operand = .data (.mem m)) :
    pageCycles m s = (crossesPage i s).toNat := by
  have carry (base : Word) (index : Byte) :
      pageCrossed base index = decide ((lo base).toNat + index.toNat > 0xFF) := by
    rw [Bool.eq_iff_iff, pageCrossed_iff_carry, decide_eq_true_iff]
  cases m with
  | absx w | absy w => simp only [pageCycles, crossesPage, ho, carry]
  | indy b => simp only [pageCycles, crossesPage, ho, carry, State.readZp16, lo_word, zext_eq_ofNat]
  | _ => simp only [pageCycles, crossesPage, ho, Bool.toNat_false]

/-- An instruction other than a branch takes the cycles of its mnemonic and mode, and one more when it only reads memory
and its operand crosses a page (R275, R276). -/
theorem cycles_eq {i : Instr} (s : State) (h : i.operand.mode ≠ .rel) :
    cycles i s =
      baseCycles i.mnemonic i.operand.mode + if readsMemoryOnly i.mnemonic && crossesPage i s then 1 else 0 := by
  cases ho : i.operand with
  | data src =>
    cases src with
    | imm b => simp [cycles, crossesPage, ho]
    | mem m =>
      simp only [cycles, ho, pageCycles_eq s ho, Bool.toNat, Bool.cond_eq_ite, Bool.and_eq_true, ite_and]
  | rel disp => exact absurd (by rw [ho]; rfl) h
  | imp | acc | ind ptr => simp [cycles, crossesPage, ho]

/-! ### From the grid to an "Encodings" line -/

/-- An entry of an "Encodings" line gives the cycles of R275 and R276 for its mnemonic and mode. -/
abbrev Timed (m : Mnemonic) (e : Encoding) : Prop :=
  e.mode ≠ .rel ∧ e.cycles = baseCycles m e.mode ∧ e.plusOne = (readsMemoryOnly m && indexesWord e.mode)

/-- The line lists the cells of the mnemonic and no others, each with its cycles: what evaluation checks of an
"Encodings" line. -/
abbrev LineMatchesGrid (m : Mnemonic) (l : List Encoding) : Prop :=
  (∀ j ∈ samples m, ∃ e ∈ l, j.operand.mode = e.mode ∧ j.opcode = e.opcode) ∧
  ∀ e ∈ l, Timed m e ∧ ∃ j ∈ samples m, j.operand.mode = e.mode ∧ j.opcode = e.opcode

/-- A line that matches the grid is right of every instruction of its mnemonic, whatever the operand bytes. -/
theorem encodingsAre_of_lineMatchesGrid {m : Mnemonic} {l : List Encoding} (h : LineMatchesGrid m l) :
    EncodingsAre m l := by
  obtain ⟨listed, right⟩ := h
  refine ⟨fun i hm => ?_, fun e he => ?_⟩
  · obtain ⟨j, hj, -, mode, opcode⟩ := exists_sample i
    obtain ⟨e, he, hmode, hopcode⟩ := listed j (hm ▸ hj)
    obtain ⟨⟨branchless, base, extra⟩, -⟩ := right e he
    have sameMode : i.operand.mode = e.mode := mode.trans hmode
    refine ⟨e, he, sameMode, opcode.trans hopcode, fun s => ?_⟩
    have crossing : (indexesWord e.mode && crossesPage i s) = crossesPage i s := by
      rw [← sameMode, Bool.and_eq_right_iff_imp]
      exact indexesWord_of_crossesPage
    rw [cycles_eq s (sameMode ▸ branchless), hm, sameMode, base, extra, Bool.and_assoc, crossing]
  · obtain ⟨-, j, hj, modeAndOpcode⟩ := right e he
    exact ⟨j, of_decide_eq_true (List.mem_filter.1 hj).2, modeAndOpcode⟩

end Sys2Proof.Machine
end

section
/-! SUPPORT. The loads and the stores as their mnemonic and operand give them, whatever the mode. -/

namespace Sys2Proof.Machine

/-- A load runs the meaning of its mnemonic on its operand (R130, R132, R134). -/
theorem exec_load {i : Instr} {src : Source} {op : Source → State → State} (s : State)
    (hm : (i.mnemonic, op) ∈ [(.lda, opLda), (.ldx, opLdx), (.ldy, opLdy)]) (ho : i.operand = .data src) :
    exec i s = .next (op src s) := by
  cases i with
  | ldaImm | ldaZp | ldaZpx | ldaAbs | ldaAbsx | ldaAbsy | ldaIndx | ldaIndy
  | ldxImm | ldxZp | ldxZpy | ldxAbs | ldxAbsy
  | ldyImm | ldyZp | ldyZpx | ldyAbs | ldyAbsx =>
    obtain rfl : op = _ := by simpa [Instr.mnemonic] using hm
    cases ho
    rfl
  | _ => simp [Instr.mnemonic] at hm

/-- A store writes its register at the effective address of its operand (R131, R133, R135). -/
theorem exec_store {i : Instr} {m : MemForm} {s : State} {v : Byte}
    (hm : (i.mnemonic, v) ∈ [(.sta, s.a), (.stx, s.x), (.sty, s.y)]) (ho : i.operand = .data (.mem m)) :
    exec i s = .next (writeMem m v (s.advance (memLength m))) := by
  cases i with
  | staZp | staZpx | staAbs | staAbsx | staAbsy | staIndx | staIndy | stxZp | stxZpy | stxAbs | styZp | styZpx
  | styAbs =>
    obtain rfl : v = _ := by simpa [Instr.mnemonic] using hm
    cases ho
    rfl
  | _ => simp [Instr.mnemonic] at hm

end Sys2Proof.Machine
end

section
/-! The statements about the loads and the stores, settled. -/

namespace Sys2Proof.Proofs.LoadStore

open Sys2Proof.Machine

/-- Settles O23: the encodings are those of the grid, and a load changes what reading its operand changes, then its
register, N and Z. -/
theorem loadResults : Obligations.LoadResults := by
  unfold Obligations.LoadResults
  refine ⟨encodingsAre_of_lineMatchesGrid (by decide), encodingsAre_of_lineMatchesGrid (by decide),
    encodingsAre_of_lineMatchesGrid (by decide), fun i src s ho => ?_⟩
  rw [ho, mode_length_data]
  intro m
  have flags : s.p = m.2.p := by simp [m]
  have advanced : Claims.nextPc i s = m.2.pc := by simp [m, Claims.nextPc, ho]
  rw [flags, advanced]
  exact ⟨fun hm => exec_load (op := opLda) s (by simp [hm]) ho, fun hm => exec_load (op := opLdx) s (by simp [hm]) ho,
    fun hm => exec_load (op := opLdy) s (by simp [hm]) ho⟩

/-- Settles O24: the encodings are those of the grid, and a store is one MemWrite at the effective address. -/
theorem storeResults : Obligations.StoreResults := by
  unfold Obligations.StoreResults
  refine ⟨encodingsAre_of_lineMatchesGrid (by decide), encodingsAre_of_lineMatchesGrid (by decide),
    encodingsAre_of_lineMatchesGrid (by decide), fun i m s v ho hv => ?_⟩
  have hm : (i.mnemonic, v) ∈ [(.sta, s.a), (.stx, s.x), (.sty, s.y)] := by simpa using hv
  rw [ho, mode_length_data]
  intro e
  refine ⟨writeMem m v (s.advance (memLength m)), exec_store hm ho, rfl, by simp, by simp, by simp, by simp, by simp,
    by simp [Claims.nextPc, ho], fun hr => ?_, fun k hk => ?_⟩
  · exact writeMem_peek_same (s.advance (memLength m)) v m hr
  · exact writeMem_peek_other (s.advance (memLength m)) v m hk

end Sys2Proof.Proofs.LoadStore
end

section
/-! SUPPORT. The logical instructions and the compares as their mnemonic and operand give them, whatever the mode, the
state each of their meanings makes, and the instructions that write V. -/

namespace Sys2Proof.Machine

/-! ### Which meaning runs -/

/-- AND, ORA and EOR run the shared meaning with their own bitwise operation (R140, R141, R142). -/
theorem exec_logic {i : Instr} {src : Source} {f : Byte → Byte → Byte} (s : State)
    (hm : (i.mnemonic, f) ∈ [(.and, (· &&& ·)), (.ora, (· ||| ·)), (.eor, (· ^^^ ·))]) (ho : i.operand = .data src) :
    exec i s = .next (opLogic f src s) := by
  cases i with
  | andImm | andZp | andZpx | andAbs | andAbsx | andAbsy | andIndx | andIndy
  | oraImm | oraZp | oraZpx | oraAbs | oraAbsx | oraAbsy | oraIndx | oraIndy
  | eorImm | eorZp | eorZpx | eorAbs | eorAbsx | eorAbsy | eorIndx | eorIndy =>
    obtain rfl : f = _ := by simpa [Instr.mnemonic] using hm
    cases ho
    rfl
  | _ => simp [Instr.mnemonic] at hm

/-- BIT runs its meaning on its operand (R143). -/
theorem exec_bit {i : Instr} {m : MemForm} (s : State) (hm : i.mnemonic = .bit) (ho : i.operand = .data (.mem m)) :
    exec i s = .next (opBit m s) := by
  cases i with
  | bitZp | bitAbs => cases ho; rfl
  | _ => cases hm

/-- CMP, CPX and CPY run the shared meaning with their own register (R144, R145, R146). -/
theorem exec_compare {i : Instr} {src : Source} {s : State} {reg : Byte}
    (hm : (i.mnemonic, reg) ∈ [(.cmp, s.a), (.cpx, s.x), (.cpy, s.y)]) (ho : i.operand = .data src) :
    exec i s = .next (opCompare reg src s) := by
  cases i with
  | cmpImm | cmpZp | cmpZpx | cmpAbs | cmpAbsx | cmpAbsy | cmpIndx | cmpIndy | cpxImm | cpxZp | cpxAbs
  | cpyImm | cpyZp | cpyAbs =>
    obtain rfl : reg = _ := by simpa [Instr.mnemonic] using hm
    cases ho
    rfl
  | _ => simp [Instr.mnemonic] at hm

/-! ### The state each meaning makes -/

/-- Reading an operand leaves A, the flags and the advanced PC, so the result is of A and the flags before the
instruction. -/
theorem opLogic_eq (f : Byte → Byte → Byte) (src : Source) (s : State) :
    let m := readSource src (s.advance (sourceLength src))
    opLogic f src s = { m.2 with
      a := f s.a m.1, p := setNZ s.p (f s.a m.1), pc := s.pc + BitVec.ofNat 16 (sourceLength src) } := by
  simp [opLogic, State.setA, State.setNZ, State.setP]

/-- BIT changes, beside PC and what reading its operand changes, its three flags alone. -/
theorem opBit_eq (m : MemForm) (s : State) :
    let r := readMem m (s.advance (memLength m))
    opBit m s = { r.2 with p := bitFlags s.p s.a r.1, pc := s.pc + BitVec.ofNat 16 (memLength m) } := by
  simp [opBit, State.setP]

/-- A compare changes, beside PC and what reading its operand changes, its three flags alone. -/
theorem opCompare_eq (reg : Byte) (src : Source) (s : State) :
    let m := readSource src (s.advance (sourceLength src))
    opCompare reg src s = { m.2 with
      p := compareFlags s.p reg m.1, pc := s.pc + BitVec.ofNat 16 (sourceLength src) } := by
  simp [opCompare, State.setP]

/-! ### The flags -/

/-- R26 lists V for these six mnemonics alone. -/
theorem flagsWritten_v_of_not_mem {m : Mnemonic} (h : m ∉ [.bit, .adc, .sbc, .clv, .plp, .rti]) :
    (Claims.flagsWritten m).v = false := by
  revert h; cases m <;> decide

/-- Bit 7 of a difference modulo 256, as a number (R147). -/
theorem sub_getLsbD_seven (r m : Byte) : (r - m).getLsbD 7 = decide (128 ≤ (r.toNat + 256 - m.toNat) % 256) := by
  have hm := m.isLt
  have difference : (r - m).toNat = (r.toNat + 256 - m.toNat) % 256 := by
    rw [BitVec.toNat_sub]
    omega
  rw [← difference]
  exact (BitVec.msb_eq_getLsbD_last (r - m)).symm.trans (BitVec.msb_eq_decide (r - m))

/-- The flags of `Compare(R, M)` as comparisons of numbers (R147). -/
theorem compareFlags_eq (p : Status) (r m : Byte) :
    compareFlags p r m = { p with
      c := decide (r.toNat ≥ m.toNat), z := decide (r = m),
      n := decide (128 ≤ (r.toNat + 256 - m.toNat) % 256) } := by
  rw [compareFlags, sub_getLsbD_seven]

end Sys2Proof.Machine
end

section
/-! The statements about the logical instructions and the compares, settled. -/

namespace Sys2Proof.Proofs.LogicalCompare

open Sys2Proof.Machine

/-- Settles O25: the encodings are those of the grid, and the three share one meaning, each with its own operation. -/
theorem logicalResults : Obligations.LogicalResults := by
  unfold Obligations.LogicalResults
  refine ⟨encodingsAre_of_lineMatchesGrid (by decide), encodingsAre_of_lineMatchesGrid (by decide),
    encodingsAre_of_lineMatchesGrid (by decide), fun i src s ho => ?_⟩
  rw [Claims.nextPc, ho, mode_length_data]
  exact ⟨fun hm => (exec_logic s (by simp [hm]) ho).trans (congrArg _ (opLogic_eq (· &&& ·) src s)),
    fun hm => (exec_logic s (by simp [hm]) ho).trans (congrArg _ (opLogic_eq (· ||| ·) src s)),
    fun hm => (exec_logic s (by simp [hm]) ho).trans (congrArg _ (opLogic_eq (· ^^^ ·) src s))⟩

/-- Settles O26: the encodings are those of the grid, V is written by no mnemonic for which R26 does not list it, and
BIT changes its three flags alone. -/
theorem bitResult : Obligations.BitResult := by
  unfold Obligations.BitResult
  refine ⟨encodingsAre_of_lineMatchesGrid (by decide), fun i s t hv h => ?_, fun i m s hm ho => ?_⟩
  · obtain ⟨-, keepsV, -⟩ := exec_flags h
    exact keepsV (flagsWritten_v_of_not_mem hv)
  · rw [Claims.nextPc, exec_bit s hm ho, opBit_eq, ho, mode_length_data]
    rfl

/-- Settles O27: the encodings are those of the grid, and the flags of a compare are comparisons of numbers. -/
theorem compareResults : Obligations.CompareResults := by
  unfold Obligations.CompareResults
  refine ⟨encodingsAre_of_lineMatchesGrid (by decide), encodingsAre_of_lineMatchesGrid (by decide),
    encodingsAre_of_lineMatchesGrid (by decide), fun i src s reg ho hr => ?_⟩
  have hm : (i.mnemonic, reg) ∈ [(.cmp, s.a), (.cpx, s.x), (.cpy, s.y)] := by simpa using hr
  rw [Claims.nextPc, exec_compare hm ho, opCompare_eq, compareFlags_eq, ho, mode_length_data]

end Sys2Proof.Proofs.LogicalCompare
end

section
/-! SUPPORT. Binary and decimal addition and subtraction as arithmetic of numbers, and the state that ADC and SBC make
of them, whatever the mode. -/

namespace Sys2Proof.Machine

open Sys2Proof.Claims (signed BcdByte decValue bcdOf)

/-- A condition as a bit. -/
theorem toNat_decide_eq_ite (p : Prop) [Decidable p] : (decide p).toNat = if p then 1 else 0 := by
  rw [Bool.toNat, Bool.cond_decide]

/-! ### The binary sum -/

/-- Two bytes and a carry make at most 511 (R152). -/
theorem binarySum_lt (a m : Byte) (c : Bool) : binarySum a m c < 512 := by
  have ha := a.isLt
  have hm := m.isLt
  have hc := c.toNat_le
  unfold binarySum
  omega

theorem addBinaryResult_toNat (a m : Byte) (c : Bool) : (addBinaryResult a m c).toNat = binarySum a m c % 256 :=
  BitVec.toNat_ofNat ..

theorem addBinaryFlags_c (p : Status) (a m : Byte) (c : Bool) :
    (addBinaryFlags p a m c).c = decide (binarySum a m c / 256 = 1) := by
  have bound := binarySum_lt a m c
  refine decide_eq_decide.2 ?_
  omega

/-- The result of `AddBinary` as the remainder of the sum (R152). -/
theorem addBinaryResult_eq (a m : Byte) (c : Bool) : addBinaryResult a m c = BitVec.ofNat 8 (binarySum a m c % 256) :=
  BitVec.eq_of_toNat_eq (by simp only [addBinaryResult_toNat, BitVec.toNat_ofNat, Nat.reducePow, Nat.mod_mod])

/-- The flags of `AddBinary`, C by division (R152). -/
theorem addBinaryFlags_eq (p : Status) (a m : Byte) (c : Bool) :
    addBinaryFlags p a m c = { p with
      c := decide (binarySum a m c / 256 = 1)
      v := ((a ^^^ addBinaryResult a m c) &&& (m ^^^ addBinaryResult a m c)).getLsbD 7
      n := (addBinaryResult a m c).getLsbD 7
      z := decide (addBinaryResult a m c = 0#8) } := by
  rw [← addBinaryFlags_c p a m c]
  rfl

/-- C is the carry out of bit 7 (R152). -/
theorem addBinaryFlags_c_toNat (p : Status) (a m : Byte) (c : Bool) :
    (addBinaryFlags p a m c).c.toNat = binarySum a m c / 256 := by
  have bound := binarySum_lt a m c
  rw [addBinaryFlags_c, toNat_decide_eq_ite]
  split <;> omega

/-- Bit 7 of a byte is its sign (R152). -/
theorem getLsbD_seven_iff (v : Byte) : v.getLsbD 7 = true ↔ 128 ≤ v.toNat := by
  rw [← BitVec.msb_eq_getLsbD_last v, BitVec.msb_eq_decide, decide_eq_true_iff]

/-- A byte as a two's complement number, from its unsigned value (R152). -/
theorem signed_eq (v : Byte) : signed v = if 128 ≤ v.toNat then (v.toNat : Int) - 256 else v.toNat := by
  rw [signed, BitVec.toInt_eq_toNat_cond]
  split <;> split <;> omega

/-- The sign formula: V is set exactly when both operands have the sign that the result has not, which is when the
signed sum is no byte (R152). -/
theorem addBinaryFlags_v_iff (p : Status) (a m : Byte) (c : Bool) :
    (addBinaryFlags p a m c).v = true ↔
      signed a + signed m + (c.toNat : Int) < -128 ∨ 127 < signed a + signed m + (c.toNat : Int) := by
  have ha := a.isLt
  have hm := m.isLt
  have hc := c.toNat_le
  have result := addBinaryResult_toNat a m c
  have formula : (addBinaryFlags p a m c).v = true ↔
      ¬ (128 ≤ a.toNat ↔ 128 ≤ (addBinaryResult a m c).toNat) ∧
      ¬ (128 ≤ m.toNat ↔ 128 ≤ (addBinaryResult a m c).toNat) := by
    simp only [addBinaryFlags, BitVec.getLsbD_and, BitVec.getLsbD_xor, Bool.and_eq_true, bne_iff_ne, ne_eq,
      ← getLsbD_seven_iff, ← Bool.eq_iff_iff]
  rw [formula, signed_eq, signed_eq]
  unfold binarySum at result
  split <;> split <;> omega

/-! ### The complement -/

/-- The complement of a byte is its distance from 255 (R151). -/
theorem xor_ones_toNat (m : Byte) : (m ^^^ 0xFF#8).toNat = 255 - m.toNat := by
  rw [show (0xFF#8 : Byte) = BitVec.allOnes 8 from rfl, BitVec.xor_allOnes, BitVec.toNat_not]

/-- The complement of a byte is, as a signed number, its distance from -1 (R152). -/
theorem signed_xor_ones (m : Byte) : signed (m ^^^ 0xFF#8) = -1 - signed m := by
  have hm := m.isLt
  rw [signed_eq, signed_eq, xor_ones_toNat]
  split <;> split <;> omega

/-- With the complement of a byte, C is the absence of a borrow (R152). -/
theorem addBinaryFlags_c_xor_ones (p : Status) (a m : Byte) (c : Bool) :
    (addBinaryFlags p a (m ^^^ 0xFF#8) c).c =
      decide (0 ≤ (a.toNat : Int) - (m.toNat : Int) - (1 - (c.toNat : Int))) := by
  have hm := m.isLt
  refine decide_eq_decide.2 ?_
  rw [binarySum, xor_ones_toNat]
  omega

/-! ### BCD bytes -/

theorem isBcd_iff (v : Byte) : isBcd v = true ↔ BcdByte v := by
  simp only [isBcd, BcdByte, Bool.and_eq_true, decide_eq_true_iff]

theorem decValue_eq (v : Byte) : decValue v = (dec v : Int) := by
  simp only [decValue, dec, Nat.cast_add, Nat.cast_mul, Nat.cast_ofNat]

theorem bcdOf_natCast (n : Nat) : bcdOf n = bcd n := by
  rw [bcdOf, bcd, ← BitVec.ofInt_natCast]
  congr 1
  omega

theorem dec_lt {v : Byte} (h : isBcd v = true) : dec v < 100 := by
  obtain ⟨high, low⟩ := (isBcd_iff v).1 h
  unfold dec
  omega

theorem bcd_toNat {n : Nat} (h : n < 100) : (bcd n).toNat = n / 10 * 16 + n % 10 := by
  rw [bcd, BitVec.toNat_ofNat]
  omega

/-- `bcd` answers a BCD byte (R153). -/
theorem isBcd_bcd {n : Nat} (h : n < 100) : isBcd (bcd n) = true := by
  rw [isBcd_iff, BcdByte, bcd_toNat h]
  omega

/-- `bcd` is the inverse of `dec` (R153). -/
theorem dec_bcd {n : Nat} (h : n < 100) : dec (bcd n) = n := by
  rw [dec, bcd_toNat h]
  omega

/-! ### The decimal sum and difference -/

theorem addDecimal_of_isBcd {a m : Byte} (c : Bool) (d : DecimalDraws) (ha : isBcd a = true) (hm : isBcd m = true) :
    addDecimal a m c d = (bcd ((dec a + dec m + c.toNat) % 100), decide (100 ≤ dec a + dec m + c.toNat)) := by
  simp only [addDecimal, ha, hm, Bool.and_self, if_true]

theorem subDecimal_of_isBcd {a m : Byte} (c : Bool) (d : DecimalDraws) (ha : isBcd a = true) (hm : isBcd m = true) :
    subDecimal a m c d = (bcd (((dec a : Int) - dec m - (1 - (c.toNat : Int))) % 100).toNat,
      decide (0 ≤ (dec a : Int) - dec m - (1 - (c.toNat : Int)))) := by
  simp only [subDecimal, ha, hm, Bool.and_self, if_true]

/-- On operands that are not both BCD, A and C are free values, for ADC and SBC alike (R153, R154; log 5). -/
theorem decimal_of_not_bcd {a m : Byte} (c : Bool) (d : DecimalDraws) (h : ¬ (BcdByte a ∧ BcdByte m)) :
    addDecimal a m c d = (d.a, d.c) ∧ subDecimal a m c d = (d.a, d.c) := by
  have notBoth : ¬ (isBcd a && isBcd m) = true := by rwa [Bool.and_eq_true, isBcd_iff, isBcd_iff]
  exact ⟨if_neg notBoth, if_neg notBoth⟩

/-- The decimal sum in the words of R153. -/
theorem addDecimal_eq_bcdOf {a m : Byte} (c : Bool) (d : DecimalDraws) (h : BcdByte a ∧ BcdByte m) :
    addDecimal a m c d =
      (bcdOf ((decValue a + decValue m + (c.toNat : Int)) % 100),
        decide (100 ≤ decValue a + decValue m + (c.toNat : Int))) := by
  obtain ⟨ha, hm⟩ := h
  rw [addDecimal_of_isBcd c d ((isBcd_iff a).2 ha) ((isBcd_iff m).2 hm), decValue_eq, decValue_eq, ← bcdOf_natCast]
  norm_cast

/-- The decimal difference in the words of R154. -/
theorem subDecimal_eq_bcdOf {a m : Byte} (c : Bool) (d : DecimalDraws) (h : BcdByte a ∧ BcdByte m) :
    subDecimal a m c d =
      (bcdOf ((decValue a - decValue m - (1 - (c.toNat : Int))) % 100),
        decide (0 ≤ decValue a - decValue m - (1 - (c.toNat : Int)))) := by
  obtain ⟨ha, hm⟩ := h
  rw [subDecimal_of_isBcd c d ((isBcd_iff a).2 ha) ((isBcd_iff m).2 hm), decValue_eq, decValue_eq, ← bcdOf_natCast,
    Int.toNat_of_nonneg (Int.emod_nonneg _ (by decide))]

/-! ### ADC and SBC -/

/-- ADC and SBC run the meaning of their mnemonic on their operand (R150, R151). -/
theorem exec_addSub {i : Instr} {src : Source} {op : Source → State → State} (s : State)
    (hm : (i.mnemonic, op) ∈ [(.adc, opAdc), (.sbc, opSbc)]) (ho : i.operand = .data src) :
    exec i s = .next (op src s) := by
  cases i with
  | adcImm | adcZp | adcZpx | adcAbs | adcAbsx | adcAbsy | adcIndx | adcIndy
  | sbcImm | sbcZp | sbcZpx | sbcAbs | sbcAbsx | sbcAbsy | sbcIndx | sbcIndy =>
    obtain rfl : op = _ := by simpa [Instr.mnemonic] using hm
    cases ho
    rfl
  | _ => simp [Instr.mnemonic] at hm

section
variable (src : Source) {s : State}

/-- ADC with D = 0 (R150, R152). -/
theorem opAdc_of_binary (hd : s.p.d = false) :
    let m := readSource src (s.advance (sourceLength src))
    opAdc src s = { m.2 with
      a := addBinaryResult s.a m.1 s.p.c, p := addBinaryFlags s.p s.a m.1 s.p.c,
      pc := s.pc + BitVec.ofNat 16 (sourceLength src) } := by
  simp [opAdc, hd, State.addBinary, State.setA, State.setP]

/-- SBC with D = 0: the sum with the complement of the operand (R151, R152). -/
theorem opSbc_of_binary (hd : s.p.d = false) :
    let m := readSource src (s.advance (sourceLength src))
    opSbc src s = { m.2 with
      a := addBinaryResult s.a (m.1 ^^^ 0xFF#8) s.p.c, p := addBinaryFlags s.p s.a (m.1 ^^^ 0xFF#8) s.p.c,
      pc := s.pc + BitVec.ofNat 16 (sourceLength src) } := by
  simp [opSbc, hd, State.addBinary, State.setA, State.setP]

/-- ADC with D = 1: five free values, the decimal sum into A and C (R150, R153, R156). -/
theorem opAdc_of_decimal (hd : s.p.d = true) :
    let m := readSource src (s.advance (sourceLength src))
    let d := m.2.decimalDraws.1
    let r := addDecimal s.a m.1 s.p.c d
    opAdc src s = { m.2 with
      a := r.1, p := decimalFlags s.p r.2 d, pc := s.pc + BitVec.ofNat 16 (sourceLength src),
      draws := m.2.draws + 5 } := by
  simp [opAdc, hd, State.setDecimal, State.decimalDraws, State.setA, State.setP]

/-- SBC with D = 1: five free values, the decimal difference into A and C (R151, R154, R156). -/
theorem opSbc_of_decimal (hd : s.p.d = true) :
    let m := readSource src (s.advance (sourceLength src))
    let d := m.2.decimalDraws.1
    let r := subDecimal s.a m.1 s.p.c d
    opSbc src s = { m.2 with
      a := r.1, p := decimalFlags s.p r.2 d, pc := s.pc + BitVec.ofNat 16 (sourceLength src),
      draws := m.2.draws + 5 } := by
  simp [opSbc, hd, State.setDecimal, State.decimalDraws, State.setA, State.setP]

end

end Sys2Proof.Machine
end

section
/-! The statements about ADC and SBC, settled. -/

namespace Sys2Proof.Proofs.Arithmetic

open Sys2Proof.Machine
open Sys2Proof.Claims (signed)

/-- Settles O28: the encodings are those of the grid; with D = 0 both are a binary sum, with D = 1 each takes its
decimal result from BCD operands and free values from others. -/
theorem adcSbcResults : Obligations.AdcSbcResults := by
  unfold Obligations.AdcSbcResults
  refine ⟨encodingsAre_of_lineMatchesGrid (by decide), encodingsAre_of_lineMatchesGrid (by decide),
    fun i src s m ho hd => ?_, fun i src s ho hd => ?_⟩
  all_goals rw [Claims.nextPc, ho, mode_length_data]
  · intro o hm sum r
    have executed : exec i s = .next { o.2 with
        a := addBinaryResult s.a m s.p.c, p := addBinaryFlags s.p s.a m s.p.c,
        pc := s.pc + BitVec.ofNat 16 (sourceLength src) } := by
      rcases hm with ⟨hm, rfl⟩ | ⟨hm, rfl⟩
      · exact (exec_addSub s (by simp [hm]) ho).trans (congrArg _ (opAdc_of_binary src hd))
      · exact (exec_addSub s (by simp [hm]) ho).trans (congrArg _ (opSbc_of_binary src hd))
    rwa [addBinaryFlags_eq, addBinaryResult_eq] at executed
  · intro o k bcdOperands plus minus hm
    rcases hm with hm | hm
    · refine ⟨_, _, (exec_addSub s (by simp [hm]) ho).trans (congrArg _ (opAdc_of_decimal src hd)), fun free => ?_,
        fun both _ => ?_, fun _ isSbc => by simp [hm] at isSbc⟩
      · rw [(decimal_of_not_bcd _ _ free).1]; exact ⟨rfl, rfl⟩
      · rw [addDecimal_eq_bcdOf _ _ both]; exact ⟨rfl, rfl⟩
    · refine ⟨_, _, (exec_addSub s (by simp [hm]) ho).trans (congrArg _ (opSbc_of_decimal src hd)), fun free => ?_,
        fun _ isAdc => by simp [hm] at isAdc, fun both _ => ?_⟩
      · rw [(decimal_of_not_bcd _ _ free).2]; exact ⟨rfl, rfl⟩
      · rw [subDecimal_eq_bcdOf _ _ both]; exact ⟨rfl, rfl⟩

/-- Settles O29: V is the sign formula read as overflow, and subtraction is the sum with the complement, whose signed
value is `-1 - m`. -/
theorem addBinaryIsSignedAndUnsigned : Obligations.AddBinaryIsSignedAndUnsigned := by
  unfold Obligations.AddBinaryIsSignedAndUnsigned
  intro p a m c
  have difference :
      signed a + signed (m ^^^ 0xFF#8) + (c.toNat : Int) = signed a - signed m - (1 - (c.toNat : Int)) := by
    rw [signed_xor_ones]
    omega
  refine ⟨addBinaryResult_toNat a m c, addBinaryFlags_c_toNat p a m c, rfl, rfl, rfl, rfl, rfl,
    addBinaryFlags_v_iff p a m c, ?_, addBinaryFlags_c_xor_ones p a m c⟩
  rw [addBinaryFlags_v_iff, difference]

/-- Settles O30: two values below 100 and a carry make less than 200, so the carry is the hundreds. -/
theorem decimalSumIsArithmetic : Obligations.DecimalSumIsArithmetic := by
  unfold Obligations.DecimalSumIsArithmetic
  intro a m c d ha hm
  have da := dec_lt ha
  have dm := dec_lt hm
  have hc := c.toNat_le
  have below : (dec a + dec m + c.toNat) % 100 < 100 := Nat.mod_lt _ (by decide)
  rw [addDecimal_of_isBcd c d ha hm]
  refine ⟨isBcd_bcd below, ?_⟩
  rw [dec_bcd below, toNat_decide_eq_ite]
  split <;> omega

/-- Settles O31: the difference lies between -100 and 99, so one borrow of 100 brings it below 100 and not below 0. -/
theorem decimalDifferenceIsArithmetic : Obligations.DecimalDifferenceIsArithmetic := by
  unfold Obligations.DecimalDifferenceIsArithmetic
  intro a m c d ha hm
  have da := dec_lt ha
  have dm := dec_lt hm
  have hc := c.toNat_le
  have below : (((dec a : Int) - dec m - (1 - (c.toNat : Int))) % 100).toNat < 100 := by omega
  rw [subDecimal_of_isBcd c d ha hm]
  refine ⟨isBcd_bcd below, ?_⟩
  rw [dec_bcd below, toNat_decide_eq_ite]
  split <;> omega

end Sys2Proof.Proofs.Arithmetic
end

section
/-! SUPPORT. The read-modify-write instructions as one family (R166): what each mnemonic makes of the old byte and of C,
which meaning runs, and the state it makes, for A and for memory alike. -/

namespace Sys2Proof.Machine

/-- What each mnemonic of the family makes of the old byte, and the C it leaves, given the C before: the bit shifted out
by a shift, the same C by a count (R160 to R165). -/
def rewrites (c : Bool) : List (Mnemonic × (Byte → Byte) × (Byte → Bool)) :=
  [(.asl, shiftLeft, bit7), (.lsr, shiftRight, bit0), (.rol, rotateLeft c, bit7), (.ror, rotateRight c, bit0),
    (.inc, (· + 1), fun _ => c), (.dec, (· - 1), fun _ => c)]

/-- The operand that names the place (R120, R166). -/
def Place.operand : Place → Operand
  | .acc => .acc
  | .mem m => .data (.mem m)

/-- The new byte and the new C, as arithmetic of the old byte and the old C, are those of a row of the family. -/
theorem exists_mem_rewrites {k : Mnemonic} {carry c : Bool} {old new : Byte}
    (h : (k = .asl ∧ new = BitVec.ofNat 8 (2 * old.toNat) ∧ c = old.getLsbD 7) ∨
      (k = .lsr ∧ new = BitVec.ofNat 8 (old.toNat / 2) ∧ c = old.getLsbD 0) ∨
      (k = .rol ∧ new = BitVec.ofNat 8 (2 * old.toNat + carry.toNat) ∧ c = old.getLsbD 7) ∨
      (k = .ror ∧ new = BitVec.ofNat 8 (old.toNat / 2 + 128 * carry.toNat) ∧ c = old.getLsbD 0) ∨
      (k = .inc ∧ new = BitVec.ofNat 8 (old.toNat + 1) ∧ c = carry) ∨
      (k = .dec ∧ new = BitVec.ofNat 8 (old.toNat + 255) ∧ c = carry)) :
    ∃ f out, (k, f, out) ∈ rewrites carry ∧ new = f old ∧ c = out old := by
  rcases h with ⟨rfl, rfl, rfl⟩ | ⟨rfl, rfl, rfl⟩ | ⟨rfl, rfl, rfl⟩ | ⟨rfl, rfl, rfl⟩ | ⟨rfl, rfl, rfl⟩ |
    ⟨rfl, rfl, rfl⟩
  · exact ⟨shiftLeft, bit7, by simp [rewrites], (shiftLeft_eq_ofNat old).symm, rfl⟩
  · exact ⟨shiftRight, bit0, by simp [rewrites], (shiftRight_eq_ofNat old).symm, rfl⟩
  · exact ⟨rotateLeft carry, bit7, by simp [rewrites], (rotateLeft_eq_ofNat carry old).symm, rfl⟩
  · exact ⟨rotateRight carry, bit0, by simp [rewrites], (rotateRight_eq_ofNat carry old).symm, rfl⟩
  · exact ⟨(· + 1), fun _ => c, by simp [rewrites], ofNat_toNat_add_one old, rfl⟩
  · exact ⟨(· - 1), fun _ => c, by simp [rewrites], ofNat_toNat_add_255 old, rfl⟩

/-- RMW changes, beside PC and its place, the flags N, Z and C alone. -/
theorem opShift_eq (f : Byte → Byte) (out : Byte → Bool) (pl : Place) (s : State) :
    let old := modifyPlace pl f (s.advance (placeLength pl))
    opShift f out pl s = { old.2 with
      p := { setNZ s.p (f old.1) with c := out old.1 }, pc := s.pc + BitVec.ofNat 16 (placeLength pl) } := by
  simp [opShift, State.setNZ, State.setC, State.setP, setNZ]

/-- Writing C with the C that stands there changes nothing. -/
theorem State.setC_self (s : State) : s.setC s.p.c = s := rfl

/-- A count is a shift that moves no bit out: it leaves C as it was (R164, R165). -/
theorem opIncDec_eq_opShift (f : Byte → Byte) (m : MemForm) (s : State) :
    opIncDec f m s = opShift f (fun _ => s.p.c) (.mem m) s := by
  have sameC := State.setC_self (modifyMem m f (s.advance (memLength m))).2
  rw [modifyMem_p, State.advance_p] at sameC
  simp [opIncDec, opShift, modifyPlace, sameC]

/-- Each mnemonic of the family rewrites its place by its own row (R160 to R166). -/
theorem exec_rewrite {i : Instr} {s : State} {pl : Place} {f : Byte → Byte} {out : Byte → Bool}
    (hm : (i.mnemonic, f, out) ∈ rewrites s.p.c) (ho : i.operand = pl.operand) :
    exec i s = .next (opShift f out pl s) := by
  cases i with
  | aslAcc | aslZp | aslZpx | aslAbs | aslAbsx | lsrAcc | lsrZp | lsrZpx | lsrAbs | lsrAbsx
  | rolAcc | rolZp | rolZpx | rolAbs | rolAbsx | rorAcc | rorZp | rorZpx | rorAbs | rorAbsx =>
    obtain ⟨rfl, rfl⟩ : f = _ ∧ out = _ := by simpa [rewrites, Instr.mnemonic] using hm
    cases pl <;> cases ho
    rfl
  | incZp | incZpx | incAbs | incAbsx | decZp | decZpx | decAbs | decAbsx =>
    obtain ⟨rfl, rfl⟩ : f = _ ∧ out = _ := by simpa [rewrites, Instr.mnemonic] using hm
    cases pl <;> cases ho
    rw [← opIncDec_eq_opShift]
    rfl
  | _ => simp [rewrites, Instr.mnemonic] at hm

end Sys2Proof.Machine
end

section
/-! The statement about the shifts, the rotates and the counts of memory, settled. -/

namespace Sys2Proof.Proofs.ShiftIncDec

open Sys2Proof.Machine

/-- Settles O32: the encodings are those of the grid, and the six share RMW, each with its own row, on A or on the one
effective address. -/
theorem shiftIncDecResults : Obligations.ShiftIncDecResults := by
  unfold Obligations.ShiftIncDecResults
  refine ⟨encodingsAre_of_lineMatchesGrid (by decide), encodingsAre_of_lineMatchesGrid (by decide),
    encodingsAre_of_lineMatchesGrid (by decide), encodingsAre_of_lineMatchesGrid (by decide),
    encodingsAre_of_lineMatchesGrid (by decide), encodingsAre_of_lineMatchesGrid (by decide),
    fun i s r c ho hm => ?_, fun i m s new c ho => ?_⟩
  · obtain ⟨f, out, row, rfl, rfl⟩ :=
      exists_mem_rewrites (hm.imp_right (Or.imp_right (Or.imp_right Or.inl)))
    rw [exec_rewrite (pl := .acc) row ho, opShift_eq, Claims.nextPc, ho]
    rfl
  · rw [Claims.nextPc, ho, mode_length_data]
    intro e old hm
    obtain ⟨f, out, row, rfl, rfl⟩ := exists_mem_rewrites hm
    exact ⟨opShift f out (.mem m) s, exec_rewrite row ho, opShift_eq f out (.mem m) s, by simp, by simp, by simp,
      by simp, opShift_peek_same s f out m, fun k hk => opShift_peek_other s f out m hk⟩

end Sys2Proof.Proofs.ShiftIncDec
end

section
/-! SUPPORT. The jumps: the address of the high byte of a JMP INDIRECT pointer, when JSR faults and what it makes
otherwise, and what RTS pulls after it. -/

namespace Sys2Proof.Machine

/-! ### Completion -/

theorem exists_eq_jsr_of_mnemonic {i : Instr} (hm : i.mnemonic = .jsr) : ∃ target, i = .jsr target := by
  revert hm
  cases i <;> simp [Instr.mnemonic]

/-- JSR faults where a stack byte it writes is its third byte (R172). -/
theorem exec_jsr_of_clash {s : State} (target : Word)
    (hc : s.pc + 2 = stackAddr s.sp ∨ s.pc + 2 = stackAddr (s.sp - 1)) :
    exec (.jsr target) s = .fault .jsrOperandOnStack :=
  if_pos ((jsrHitsOperand_iff _ _).2 hc)

/-- JSR completes everywhere else (R172). -/
theorem exec_jsr_of_not_clash {s : State} (target : Word)
    (hc : ¬ (s.pc + 2 = stackAddr s.sp ∨ s.pc + 2 = stackAddr (s.sp - 1))) :
    exec (.jsr target) s = .next (opJsr target s) :=
  if_neg (mt (jsrHitsOperand_iff _ _).1 hc)

/-! ### The pointer of JMP INDIRECT -/

/-- The carry out of the low byte is lost when the low byte alone is counted up. -/
theorem lo_add_one (w : Word) : lo (w + 1) = lo w + 1 := by
  apply BitVec.eq_of_toNat_eq
  simp [lo_toNat, BitVec.toNat_add]

/-- The high byte of one word and the low byte of another, joined by masks. -/
theorem word_hi_lo_eq_masks (w v : Word) : word (hi w) (lo v) = (w &&& 0xFF00#16) ||| (v &&& 0x00FF#16) := by
  apply BitVec.eq_of_getLsbD_eq
  intro k hk
  rw [word, BitVec.getLsbD_append]
  interval_cases k <;> simp [hi, lo]

/-- The high byte of the target is read from the page of the pointer, as the masks of R171 say (D15). -/
theorem indirectHiAddr_eq_masks (ptr : Word) :
    indirectHiAddr ptr = (ptr &&& 0xFF00#16) ||| ((ptr + 1) &&& 0x00FF#16) := by
  rw [← word_hi_lo_eq_masks, lo_add_one]
  rfl

/-! ### The effect of JSR -/

/-- MemWrite does not read PC. -/
theorem State.memWrite_setPc (s : State) (w a : Word) (v : Byte) :
    (s.setPc w).memWrite a v = (s.memWrite a v).setPc w := by
  simp only [State.memWrite, State.setPc_kindAt]
  cases s.kindAt a <;> rfl

/-- Push does not read PC. -/
theorem State.push_setPc (s : State) (w : Word) (v : Byte) : (s.setPc w).push v = (s.push v).setPc w := by
  rw [State.push, State.setPc_sp, State.memWrite_setPc]
  rfl

/-- JSR pushes the address of its third byte and loads PC; nothing else of the state changes (R172). -/
theorem opJsr_eq (target : Word) (s : State) :
    opJsr target s = { (s.push (hi (s.pc + 2))).push (lo (s.pc + 2)) with pc := target } := by
  have third : (s.advance 3).pc - 1 = s.pc + 2 := by simp only [State.advance_pc]; bv_omega
  rw [opJsr, third, State.advance, State.pushWord, State.push_setPc, State.push_setPc]
  rfl

/-! ### A pushed word pulled back -/

/-- RTS pulls the word that lies on a RAM stack where two pushes from `top` left it, and S is `top` again (R54, R177). -/
theorem State.pullWord_of_pushed {u : State} {top : Byte} {w : Word} (hsp : u.sp = top - 2)
    (kindHi : u.kindAt (stackAddr top) = .ram) (kindLo : u.kindAt (stackAddr (top - 1)) = .ram)
    (peekHi : u.peek (stackAddr top) = hi w) (peekLo : u.peek (stackAddr (top - 1)) = lo w) :
    u.pullWord = (w, u.setSp top) := by
  have spLo : u.sp + 1 = top - 1 := by rw [hsp]; bv_omega
  have spHi : u.sp + 2 = top := by rw [hsp]; bv_omega
  rw [u.pullWord_stored (by rw [spLo]; exact .inl kindLo) (by rw [spHi]; exact .inl kindHi), spLo, spHi, peekHi,
    peekLo, word_hi_lo]

/-- After a JSR on a RAM stack, RTS resumes at the address after it (R172, R177). -/
theorem exec_rts_opJsr (target : Word) {s : State} (h0 : s.kindAt (stackAddr s.sp) = .ram)
    (h1 : s.kindAt (stackAddr (s.sp - 1)) = .ram) :
    exec .rts (opJsr target s) = .next (((opJsr target s).setSp s.sp).setPc (s.pc + 3)) := by
  obtain ⟨peekHi, peekLo⟩ := opJsr_peek s target h0 h1
  have pulled : ((opJsr target s).advance 1).pullWord = (s.pc + 2, ((opJsr target s).advance 1).setSp s.sp) :=
    State.pullWord_of_pushed (by simp) (by simpa using h0) (by simpa using h1) peekHi peekLo
  have next : s.pc + 2 + 1 = s.pc + 3 := by bv_omega
  simp only [exec, execRts, pulled, next]
  rfl

end Sys2Proof.Machine
end

section
/-! The statements about the jumps, settled. -/

namespace Sys2Proof.Proofs.Jump

open Sys2Proof.Machine

/-- Settles O6: of the cases of `exec` only that of JSR faults, under its own condition. -/
theorem onlyJsrCanFault : Obligations.OnlyJsrCanFault := by
  unfold Obligations.OnlyJsrCanFault
  refine fun i s => ⟨fun hm hc => ?_, fun h => ?_⟩
  · obtain ⟨target, rfl⟩ := exists_eq_jsr_of_mnemonic hm
    exact exec_jsr_of_clash target hc
  · have answered := exec_case i s
    generalize exec i s = r at answered ⊢
    cases answered with
    | jsrFault target hm ho hc => exact absurd ⟨hm, (jsrHitsOperand_iff _ _).1 hc⟩ h
    | _ => exact ⟨_, rfl⟩

/-- Settles O33: the encodings are those of the grid, and the pointer's high byte is read from the pointer's page. -/
theorem jmpResults : Obligations.JmpResults := by
  unfold Obligations.JmpResults
  refine ⟨encodingsAre_of_lineMatchesGrid (by decide), fun w s => rfl, fun ptr s => ?_⟩
  intro l h
  have target : indirectTarget ptr (s.advance 3) = (word h.1 l.1, h.2) := by
    rw [indirectTarget, indirectHiAddr_eq_masks]
  rw [← word_eq_ofNat]
  simp only [exec, execJmpInd, target]
  rfl

/-- Settles O34: JSR faults on a clash; otherwise it is two pushes and the load of PC, and the pushed word lies on a RAM
stack. -/
theorem jsrResult : Obligations.JsrResult := by
  unfold Obligations.JsrResult
  refine ⟨encodingsAre_of_lineMatchesGrid (by decide), fun w s => ⟨exec_jsr_of_clash w, fun hc => ?_⟩⟩
  exact ⟨opJsr w s, exec_jsr_of_not_clash w hc, opJsr_eq w s, opJsr_pc s w, opJsr_sp s w, opJsr_p s w, opJsr_a s w,
    opJsr_x s w, opJsr_y s w, opJsr_peek s w, fun _ h0 h1 => opJsr_peek_other s w h0 h1⟩

/-- Settles O36: RTS pulls the address that JSR pushed. -/
theorem jsrThenRtsResumes : Obligations.JsrThenRtsResumes := by
  unfold Obligations.JsrThenRtsResumes
  intro w s h0 h1 hc0 hc1
  exact ⟨opJsr w s, _, exec_jsr_of_not_clash w (not_or.2 ⟨hc0, hc1⟩), exec_rts_opJsr w h0 h1, opJsr_pc s w, rfl, rfl,
    opJsr_p s w, opJsr_a s w, opJsr_x s w, opJsr_y s w⟩

end Sys2Proof.Proofs.Jump
end

section
/-! SUPPORT. What a read depends on, the effect of taking an exception as `Claims.Entered` states it, the return from an
exception to what it pushed, and which exception BRK takes. -/

namespace Sys2Proof.Machine

open Sys2Proof.Claims (Stored StackRam Framed EntryKeeps Entered)

/-! ### What a read depends on -/

/-- Two states that agree in all that MemRead reads or changes: memory, the map, and the counts of draws and events. -/
def SameBus (s u : State) : Prop :=
  u.mem = s.mem ∧ u.memMap = s.memMap ∧ u.draws = s.draws ∧ u.events = s.events

/-- States with the same bus read the same byte, and the read does the same to draws and events (R52). -/
theorem State.memRead_of_sameBus {s u : State} (h : SameBus s u) (a : Word) :
    u.memRead a = ((s.memRead a).1,
      { u with draws := (s.memRead a).2.draws, events := (s.memRead a).2.events }) := by
  obtain ⟨mem, map, draws, events⟩ := h
  have kind : u.kindAt a = s.kindAt a := by rw [State.kindAt, map, State.kindAt]
  have byte : u.peek a = s.peek a := by rw [State.peek, mem, State.peek]
  rcases s.memRead_cases a with ⟨k, r⟩ | ⟨k, r⟩ | ⟨k, r⟩ | ⟨k, r⟩
  · rw [u.memRead_stored a (by rwa [kind]), byte, r, ← draws, ← events]
  all_goals simp [State.memRead, State.drawByte, kind, k, draws, events]

/-- States with the same bus have the same bus after the same read. -/
theorem SameBus.memRead {s u : State} (h : SameBus s u) (a : Word) : SameBus (s.memRead a).2 (u.memRead a).2 := by
  rw [State.memRead_of_sameBus h]
  obtain ⟨mem, map, -, -⟩ := h
  exact ⟨by simpa using mem, by simpa using map, rfl, rfl⟩

/-- Read16 from states with the same bus (R11). -/
theorem State.read16_of_sameBus {s u : State} (h : SameBus s u) (a : Word) :
    u.read16 a = ((s.read16 a).1,
      { u with draws := (s.read16 a).2.draws, events := (s.read16 a).2.events }) := by
  rw [State.read16, State.memRead_of_sameBus (h.memRead a), State.memRead_of_sameBus h]
  rfl

/-- Pull does not read the flags. -/
theorem State.pull_setP (s : State) (q : Status) : (s.setP q).pull = (s.pull.1, s.pull.2.setP q) := by
  have bus : SameBus (s.setSp (s.sp + 1)) ((s.setP q).setSp (s.sp + 1)) := ⟨rfl, rfl, rfl, rfl⟩
  rw [s.pull_shape]
  exact State.memRead_of_sameBus bus _

/-- Nor does the pull of a word. -/
theorem State.pullWord_setP (s : State) (q : Status) :
    (s.setP q).pullWord = (s.pullWord.1, s.pullWord.2.setP q) := by
  simp only [State.pullWord, State.pull_setP]

/-! ### Taking an exception -/

/-- Reading the vector is reading it after the three pushes alone: I and the latch play no part in it. -/
theorem State.takeException_eq (s : State) (ret : Word) (brk : Bool) (vector : Word) :
    let pushed := (s.pushWord ret).push (statusByte s.p brk)
    let target := pushed.read16 vector
    s.takeException ret brk vector = { ((pushed.setP { s.p with i := true }).clearNmi vector) with
      pc := target.1, draws := target.2.draws, events := target.2.events } := by
  intro pushed target
  have bus : SameBus pushed ((pushed.setP { pushed.p with i := true }).clearNmi vector) := by
    simp [SameBus]
  have flags : pushed.p = s.p := by simp [pushed]
  simp only [State.takeException]
  rw [State.read16_of_sameBus bus, flags]
  rfl

/-- PC before an exception plays no part in it: the return address is given and PC is loaded from the vector. -/
theorem State.takeException_setPc (s : State) (w ret : Word) (brk : Bool) (vector : Word) :
    (s.setPc w).takeException ret brk vector = s.takeException ret brk vector := by
  have bus (u : State) : SameBus u (u.setPc w) := ⟨rfl, rfl, rfl, rfl⟩
  have latch (u : State) : (u.setPc w).clearNmi vector = (u.clearNmi vector).setPc w := by
    unfold State.clearNmi; split <;> rfl
  have flags (u : State) (q : Status) : (u.setPc w).setP q = (u.setP q).setPc w := rfl
  simp only [State.takeException_eq, State.pushWord, State.push_setPc, State.setPc_p, flags, latch,
    State.read16_of_sameBus (bus _)]
  rfl

/-- Taking an exception is the sequence of R176 and R236. -/
theorem State.takeException_entered (s : State) (ret : Word) (brk : Bool) (vector : Word) :
    Entered s (s.takeException ret brk vector) ret brk vector := by
  unfold Entered
  intro pushed target
  ext <;> simp [State.takeException_eq, pushed, target, State.pushWord]

/-- Taking an exception leaves A, X, Y, the map, the script and the line (R236). -/
theorem State.takeException_entryKeeps (s : State) (ret : Word) (brk : Bool) (vector : Word) :
    EntryKeeps s (s.takeException ret brk vector) := by
  simp [EntryKeeps]

/-- On a RAM stack an exception leaves the return address and the status byte (R176, R236). -/
theorem State.takeException_framed {s : State} (stack : StackRam s) (ret : Word) (brk : Bool) (vector : Word) :
    Framed s (s.takeException ret brk vector) ret brk := by
  obtain ⟨top, middle, bottom⟩ := stack
  exact s.takeException_peek ret brk vector top middle bottom

/-- An address above page 1 is no stack address (R31). -/
theorem ne_stackAddr_of_page_le {a : Word} (h : 0x0200 ≤ a.toNat) (b : Byte) : a ≠ stackAddr b := by
  intro e
  have := b.isLt
  rw [e, stackAddr_toNat] at h
  omega

/-- The three pushes leave a vector above page 1, so PC is the word that stands there before them (R60, R236). -/
theorem State.takeException_pc {s : State} {vector : Word} (ret : Word) (brk : Bool)
    (low : 0x0200 ≤ vector.toNat) (high : 0x0200 ≤ (vector + 1).toNat)
    (h0 : Stored s vector) (h1 : Stored s (vector + 1)) :
    (s.takeException ret brk vector).pc =
      BitVec.ofNat 16 ((s.peek (vector + 1)).toNat * 256 + (s.peek vector).toNat) := by
  have kept {k : Word} (page : 0x0200 ≤ k.toNat) :
      ((s.pushWord ret).push (statusByte s.p brk)).peek k = s.peek k := by
    have apart := ne_stackAddr_of_page_le page
    rw [State.push_peek_other _ _ (apart _), s.pushWord_peek_other _ (apart _) (apart _)]
  rw [State.takeException_eq, State.read16_stored _ _ (by simpa [Stored] using h0) (by simpa [Stored] using h1),
    kept low, kept high, word_eq_ofNat]

/-! ### Returning from an exception -/

/-- The flags that a return from an exception pulls play no part in the pull of PC (R178, R239). -/
theorem State.returnFromException_eq (s : State) :
    let w := s.pull.2.pullWord
    s.returnFromException = { w.2 with p := setStatus s.pull.1, pc := w.1 } := by
  simp only [State.returnFromException, State.pullWord_setP]
  rfl

/-- A return from what an exception pushed on a RAM stack gives back the flags and S as they were before it, and PC is
the pushed address (R178, R239). -/
theorem State.returnFromException_of_framed {s t : State} {ret : Word} {brk : Bool} (stack : StackRam s)
    (map : t.memMap = s.memMap) (sp : t.sp = s.sp - 3) (framed : Framed s t ret brk) :
    t.returnFromException = { t with p := s.p, sp := s.sp, pc := ret } := by
  obtain ⟨top, middle, bottom⟩ := stack
  obtain ⟨peekHi, peekLo, peekStatus⟩ := framed
  have sp1 : t.sp + 1 = s.sp - 2 := by rw [sp]; bv_omega
  have sp2 : t.sp + 2 = s.sp - 1 := by rw [sp]; bv_omega
  have sp3 : t.sp + 3 = s.sp := by rw [sp]; bv_omega
  have kind (k : Word) : t.kindAt k = s.kindAt k := State.kindAt_congr map k
  rw [t.returnFromException_stored (by rw [sp1, kind]; exact .inl bottom) (by rw [sp2, kind]; exact .inl middle)
    (by rw [sp3, kind]; exact .inl top), sp1, sp2, sp3, peekHi, peekLo, peekStatus, word_hi_lo,
    setStatus_statusByte]

/-- RTI after an exception was taken from `s` on a RAM stack resumes `s` at the pushed address (R178, R239). -/
theorem exec_rti_of_framed {s t : State} {ret : Word} {brk : Bool} (stack : StackRam s)
    (map : t.memMap = s.memMap) (sp : t.sp = s.sp - 3) (framed : Framed s t ret brk) :
    exec .rti t = .next { t with p := s.p, sp := s.sp, pc := ret } :=
  congrArg Host.Outcome.next (State.returnFromException_of_framed (t := t.advance 1) stack map sp framed)

/-! ### The instructions -/

/-- BRK takes an exception whose return address is its own plus 2, with bit 4 set (R176). -/
theorem exec_brk (s : State) : exec .brk s = .next (s.takeException (s.pc + 2) true (brkVector s)) :=
  congrArg Host.Outcome.next (s.takeException_setPc _ _ true _)

/-- A BRK that no pending NMI captures takes the vector of IRQ (R176, R242). -/
theorem brkVector_of_not_captured {s : State} (h : (s.nmiPending && s.brkNmi) = false) : brkVector s = irqVector := by
  simp [brkVector, h]

/-- A BRK that a pending NMI captures takes the NMI vector (R242). -/
theorem brkVector_of_captured {s : State} (h : (s.nmiPending && s.brkNmi) = true) : brkVector s = nmiVector := by
  simp [brkVector, h]

end Sys2Proof.Machine
end

section
/-! The statements about BRK, the returns and the stack instructions, settled. -/

namespace Sys2Proof.Proofs.BreakReturnStack

open Sys2Proof.Machine

/-- Settles O35: both returns are their pulls, and the flags that RTI pulls first play no part in the pull of PC. -/
theorem returnResults : Obligations.ReturnResults := by
  unfold Obligations.ReturnResults
  refine ⟨encodingsAre_of_lineMatchesGrid (by decide), encodingsAre_of_lineMatchesGrid (by decide),
    fun s => ⟨?_, ?_⟩⟩
  · intro l h
    have next : word h.1 l.1 + 1 = BitVec.ofNat 16 (h.1.toNat * 256 + l.1.toNat + 1) := by
      rw [word_eq_ofNat, BitVec.ofNat_add _ 1]
      rfl
    exact ⟨by rw [← next]; rfl, (s.advance 1).pullWord_sp⟩
  · intro f l h
    have pulls : h.2 = (s.advance 1).pull.2.pullWord.2 := rfl
    refine ⟨?_, ?_⟩
    · rw [← word_eq_ofNat]
      exact congrArg Host.Outcome.next (s.advance 1).returnFromException_eq
    · rw [pulls, State.pullWord_sp, State.pull_sp, State.advance_sp]
      bv_omega

/-- Settles O39: the pushes do not read PC, and a pull leaves the flags and the advanced PC, so the results are of the
flags before the instruction. -/
theorem stackInstructionResults : Obligations.StackInstructionResults := by
  unfold Obligations.StackInstructionResults
  refine ⟨encodingsAre_of_lineMatchesGrid (by decide), encodingsAre_of_lineMatchesGrid (by decide),
    encodingsAre_of_lineMatchesGrid (by decide), encodingsAre_of_lineMatchesGrid (by decide), fun s => ?_⟩
  have pc : (s.advance 1).pull.2.pc = s.pc + 1 := (s.advance 1).pull_pc
  have flags : (s.advance 1).pull.2.p = s.p := (s.advance 1).pull_p
  refine ⟨congrArg Host.Outcome.next (s.push_setPc _ _), congrArg Host.Outcome.next (s.push_setPc _ _), ?_⟩
  intro r
  refine ⟨⟨_, rfl, ?_⟩, ?_⟩
  · rw [← pc]
    rfl
  · rw [← pc, ← flags]
    rfl

/-- Settles O40: BRK takes an exception, here at the vector of IRQ. -/
theorem brkResult : Obligations.BrkResult := by
  unfold Obligations.BrkResult
  refine ⟨encodingsAre_of_lineMatchesGrid (by decide), fun s free => ?_⟩
  have taken := exec_brk s
  rw [brkVector_of_not_captured free] at taken
  exact ⟨_, taken, s.takeException_entered _ true _, s.takeException_p _ true _, s.takeException_sp _ true _,
    s.takeException_entryKeeps _ true _, by simp [irqVector, nmiVector],
    fun stack => State.takeException_framed stack _ true _,
    State.takeException_pc _ true (by decide) (by decide), fun k => s.takeException_peek_other _ true _⟩

/-- Settles O41: a captured BRK takes the same exception at the NMI vector, which clears the latch. -/
theorem brkCapturedByNmi : Obligations.BrkCapturedByNmi := by
  unfold Obligations.BrkCapturedByNmi
  intro s captured
  have taken := exec_brk s
  rw [brkVector_of_captured captured] at taken
  exact ⟨_, taken, s.takeException_entered _ true _, s.takeException_p _ true _, s.takeException_sp _ true _,
    s.takeException_entryKeeps _ true _, by simp, fun stack => State.takeException_framed stack _ true _,
    State.takeException_pc _ true (by decide) (by decide), fun k => s.takeException_peek_other _ true _⟩

/-- Settles O44: either entry takes an exception from the sampled state, whose registers are those of `s`. -/
theorem entryThenRtiResumes : Obligations.EntryThenRtiResumes := by
  unfold Obligations.EntryThenRtiResumes
  intro s stack entry
  obtain ⟨vector, entered⟩ : ∃ vector, step s = .next (s.sampled.enter vector) := by
    rcases entry with nmi | irq
    · exact ⟨nmiVector, by simp only [step, nmi]; rfl⟩
    · exact ⟨irqVector, by simp only [step, irq]; rfl⟩
  have framed := State.takeException_framed (s := s.sampled) stack s.pc false vector
  exact ⟨_, _, entered, exec_rti_of_framed (s := s.sampled) stack (by simp)
    (s.sampled.takeException_sp s.pc false vector) framed, rfl, rfl, rfl, s.sampled.takeException_a s.pc false vector,
    s.sampled.takeException_x s.pc false vector, s.sampled.takeException_y s.pc false vector⟩

/-- Settles O45: whichever vector BRK takes, RTI pulls what it pushed. -/
theorem brkThenRtiResumes : Obligations.BrkThenRtiResumes := by
  unfold Obligations.BrkThenRtiResumes
  intro s stack
  exact ⟨_, _, exec_brk s, exec_rti_of_framed stack (s.takeException_memMap _ true _) (s.takeException_sp _ true _)
    (State.takeException_framed stack _ true _), rfl, rfl, rfl, s.takeException_a _ true _, s.takeException_x _ true _,
    s.takeException_y _ true _⟩

end Sys2Proof.Proofs.BreakReturnStack
end

section
/-! SUPPORT. The instructions on registers alone: the state that a new value of a register makes, with its N and Z. -/

namespace Sys2Proof.Machine

open Sys2Proof.Claims (withNZ)

variable (s : State) {v r : Byte}

/-- The instructions that give X a value: X, N, Z and PC change, nothing else (R190, R191, R194, R198). -/
theorem next_setX_setNZ (h : r = v) : (.next (((s.advance 1).setX v).setNZ v) : Result) =
    .next { s with x := r, p := withNZ s.p r, pc := s.pc + 1 } := by
  rw [h]; rfl

/-- The instructions that give Y a value: Y, N, Z and PC change, nothing else (R192, R193, R196). -/
theorem next_setY_setNZ (h : r = v) : (.next (((s.advance 1).setY v).setNZ v) : Result) =
    .next { s with y := r, p := withNZ s.p r, pc := s.pc + 1 } := by
  rw [h]; rfl

/-- The transfers to A: A, N, Z and PC change, nothing else (R195, R197). -/
theorem next_setA_setNZ (h : r = v) : (.next (((s.advance 1).setA v).setNZ v) : Result) =
    .next { s with a := r, p := withNZ s.p r, pc := s.pc + 1 } := by
  rw [h]; rfl

end Sys2Proof.Machine
end

section
/-! The statements about the register, flag and NOP instructions, settled. -/

namespace Sys2Proof.Proofs.RegisterFlagNop

open Sys2Proof.Machine

/-- Settles O54: the encodings are those of the grid, and one more or less modulo 256 is the 8-bit sum or difference. -/
theorem indexIncDecResults : Obligations.IndexIncDecResults := by
  unfold Obligations.IndexIncDecResults
  refine ⟨encodingsAre_of_lineMatchesGrid (by decide), encodingsAre_of_lineMatchesGrid (by decide),
    encodingsAre_of_lineMatchesGrid (by decide), encodingsAre_of_lineMatchesGrid (by decide), fun s => ?_⟩
  exact ⟨next_setX_setNZ s (ofNat_toNat_add_one s.x), next_setX_setNZ s (ofNat_toNat_add_255 s.x),
    next_setY_setNZ s (ofNat_toNat_add_one s.y), next_setY_setNZ s (ofNat_toNat_add_255 s.y)⟩

/-- Settles O55: the encodings are those of the grid, and each transfer gives its destination the source's value; TXS
leaves the flags. -/
theorem transferResults : Obligations.TransferResults := by
  unfold Obligations.TransferResults
  refine ⟨encodingsAre_of_lineMatchesGrid (by decide), encodingsAre_of_lineMatchesGrid (by decide),
    encodingsAre_of_lineMatchesGrid (by decide), encodingsAre_of_lineMatchesGrid (by decide),
    encodingsAre_of_lineMatchesGrid (by decide), encodingsAre_of_lineMatchesGrid (by decide), fun s => ?_⟩
  exact ⟨next_setX_setNZ s rfl, next_setA_setNZ s rfl, next_setY_setNZ s rfl, next_setA_setNZ s rfl,
    next_setX_setNZ s rfl, rfl⟩

/-- Settles O56: the encodings are those of the grid, and each instruction is one assignment to P beside the advance of
PC, or none. -/
theorem flagAndNopResults : Obligations.FlagAndNopResults := by
  unfold Obligations.FlagAndNopResults
  refine ⟨encodingsAre_of_lineMatchesGrid (by decide), encodingsAre_of_lineMatchesGrid (by decide),
    encodingsAre_of_lineMatchesGrid (by decide), encodingsAre_of_lineMatchesGrid (by decide),
    encodingsAre_of_lineMatchesGrid (by decide), encodingsAre_of_lineMatchesGrid (by decide),
    encodingsAre_of_lineMatchesGrid (by decide), encodingsAre_of_lineMatchesGrid (by decide), fun s => ?_⟩
  exact ⟨rfl, rfl, ⟨_, rfl, rfl⟩, rfl, rfl, rfl, rfl, rfl⟩

end Sys2Proof.Proofs.RegisterFlagNop
end

section
/-! SUPPORT. The branches: the opcodes of the grid, the target as a signed sum, and the cycles of a branch and of the
instructions that only read memory. -/

namespace Sys2Proof.Machine

open Sys2Proof.Claims (OpcodesAre branchCondition signed)

/-! ### The opcodes -/

/-- A list that holds the mode and the opcode of each cell of a mnemonic is right of every instruction of it. -/
theorem opcodesAre_of_samples {m : Mnemonic} {l : List (Mode × Byte)}
    (h : ∀ j ∈ samples m, (j.operand.mode, j.opcode) ∈ l) : OpcodesAre m l := by
  rintro i rfl
  obtain ⟨j, hj, -, mode, opcode⟩ := exists_sample i
  rw [mode, opcode]
  exact h j hj

/-! ### The target -/

/-- The address after a branch plus the displacement is their sum as integers, modulo 2^16 (R122, R216). -/
theorem branch_target (pc : Word) (taken : Bool) (disp : Byte) :
    pc + 2 + (if taken then sext disp else 0) =
      BitVec.ofInt 16 ((pc.toNat : Int) + 2 + if taken then signed disp else 0) := by
  rw [BitVec.ofInt_add, BitVec.ofInt_add, BitVec.ofInt_natCast, BitVec.ofNat_toNat, BitVec.setWidth_eq]
  cases taken <;> rfl

/-- A branch changes PC alone (R216). -/
theorem opBranch_eq (taken : Bool) (disp : Byte) (s : State) :
    opBranch taken disp s =
      { s with pc := BitVec.ofInt 16 ((s.pc.toNat : Int) + 2 + if taken then signed disp else 0) } := by
  rw [← branch_target]
  cases taken
  · simp [opBranch, State.advance, State.setPc]
  · rfl

/-- Each branch runs `Branch(cond)` on its own condition (R217 to R224). -/
theorem exec_branch {i : Instr} {disp : Byte} {taken : Bool} {s : State} (ho : i.operand = .rel disp)
    (hc : branchCondition s.p i.mnemonic = some taken) : exec i s = .next (opBranch taken disp s) := by
  cases i with
  | beq | bne | bmi | bpl | bcc | bcs | bvc | bvs => cases ho; cases hc; rfl
  | _ => cases ho

/-! ### The cycles -/

/-- A branch takes two cycles and what Footnote 2 adds (R275, R276). -/
theorem cycles_branch {i : Instr} {disp : Byte} (s : State) (ho : i.operand = .rel disp) :
    cycles i s = 2 + branchCycles i.mnemonic disp s := by
  cases i with
  | beq | bne | bmi | bpl | bcc | bcs | bvc | bvs => cases ho; rfl
  | _ => cases ho

/-- The cycle count asks the condition of the branch's own rule (R217 to R224). -/
theorem branchTaken_of_branchCondition {m : Mnemonic} {p : Status} {taken : Bool}
    (h : branchCondition p m = some taken) : branchTaken m p = taken := by
  cases m with
  | beq | bne | bmi | bpl | bcc | bcs | bvc | bvs => cases h; rfl
  | _ => cases h

/-- Footnote 2 adds nothing, one or two (R276). -/
theorem branchCycles_cases (m : Mnemonic) (disp : Byte) (s : State) :
    branchCycles m disp s = 0 ∨ branchCycles m disp s = 1 ∨ branchCycles m disp s = 2 := by
  unfold branchCycles
  split
  · split
    · exact .inr (.inl rfl)
    · exact .inr (.inr rfl)
  · exact .inl rfl

theorem exists_operand_eq_rel {i : Instr} (h : i.operand.mode = .rel) : ∃ disp, i.operand = .rel disp := by
  cases i with
  | beq disp | bne disp | bmi disp | bpl disp | bcc disp | bcs disp | bvc disp | bvs disp => exact ⟨disp, rfl⟩
  | _ => cases h

/-- The instructions of Footnote 1 (R276). -/
theorem readsMemoryOnly_iff (m : Mnemonic) :
    readsMemoryOnly m = true ↔ m ∈ [.lda, .ldx, .ldy, .and, .ora, .eor, .cmp, .adc, .sbc] := by
  cases m <;> decide

/-- No instruction of Footnote 1 is a branch (R125, R276). -/
theorem mode_ne_rel_of_readsMemoryOnly {i : Instr} (h : readsMemoryOnly i.mnemonic = true) :
    i.operand.mode ≠ .rel := by
  intro rel
  have available := rel ▸ mode_mem_modes i
  revert h available
  cases i.mnemonic <;> decide

end Sys2Proof.Machine
end

section
/-! The statements about the branches and about cycle counts, settled. -/

namespace Sys2Proof.Proofs.BranchAndTiming

open Sys2Proof.Machine

/-- Settles O57: the opcodes are those of the grid, every branch is `Branch(cond)`, and its cycles are two and those of
Footnote 2. -/
theorem branchResults : Obligations.BranchResults := by
  unfold Obligations.BranchResults
  refine ⟨opcodesAre_of_samples (by decide), opcodesAre_of_samples (by decide), opcodesAre_of_samples (by decide),
    opcodesAre_of_samples (by decide), opcodesAre_of_samples (by decide), opcodesAre_of_samples (by decide),
    opcodesAre_of_samples (by decide), opcodesAre_of_samples (by decide), fun i disp taken s ho hc => ⟨?_, ?_⟩⟩
  · rw [exec_branch ho hc, opBranch_eq]
  · rw [cycles_branch s ho, branchCycles, branchTaken_of_branchCondition hc]
    simp only [apply_ite (2 + ·)]

/-- Settles O58: outside the branches the count is that of the mnemonic and mode, with one more for a page crossing in
the instructions of Footnote 1. -/
theorem cycleAdjustments : Obligations.CycleAdjustments := by
  unfold Obligations.CycleAdjustments
  refine fun i s => ⟨fun reads => ?_, fun other branchless t => ?_, fun rel => ?_⟩
  · have readsOnly := (readsMemoryOnly_iff _).2 reads
    rw [cycles_eq s (mode_ne_rel_of_readsMemoryOnly readsOnly), readsOnly, Bool.true_and]
  · have notReads : readsMemoryOnly i.mnemonic = false := by
      rwa [← Bool.not_eq_true, readsMemoryOnly_iff]
    rw [cycles_eq s branchless, cycles_eq t branchless, notReads, Bool.false_and, Bool.false_and]
  · obtain ⟨disp, ho⟩ := exists_operand_eq_rel rel
    rw [cycles_branch s ho]
    have added := branchCycles_cases i.mnemonic disp s
    omega

end Sys2Proof.Proofs.BranchAndTiming
end

section
/-! SUPPORT. What a boundary leads to, one equation for each source of R235; when an IRQ is admitted; what a step leaves
of the fields that R242 needs; an interrupt entry as the exception it takes; and the reset inside an instruction. -/

namespace Sys2Proof.Machine

open Sys2Proof.Claims (Stored StackRam Framed Entered)

variable {s : State}

/-! ### The event of a boundary -/

/-- A requested RESET comes first (R235). -/
theorem State.boundaryEvent_of_reset (hr : s.boundaryInput.resetRequest = true) : s.boundaryEvent = .reset := by
  simp [State.boundaryEvent, State.eventFor, hr]

/-- A pending NMI comes next, taken or passed over, but not passed over twice (R235, R242; log 8). -/
theorem State.boundaryEvent_of_nmi (hr : s.boundaryInput.resetRequest = false) (hn : s.sampled.nmiPending = true) :
    s.boundaryEvent = if s.nmiHeld || s.boundaryInput.takeNow then .nmi else .instruction := by
  rw [State.boundaryEvent, State.eventFor, hr, hn]
  rfl

/-- Then an admitted IRQ, taken or passed over, but with I = 0 not passed over twice (R235, R242; log 8). -/
theorem State.boundaryEvent_of_irq (hr : s.boundaryInput.resetRequest = false) (hn : s.sampled.nmiPending = false)
    (hq : s.sampled.irqAdmitted = true) :
    s.boundaryEvent = if (s.irqHeld && !s.p.i) || s.boundaryInput.takeNow then .irq else .instruction := by
  rw [State.boundaryEvent, State.eventFor, hr, hn, hq]
  rfl

/-- With no source the next instruction runs (R235). -/
theorem State.boundaryEvent_of_no_source (hr : s.boundaryInput.resetRequest = false)
    (hn : s.sampled.nmiPending = false) (hq : s.sampled.irqAdmitted = false) : s.boundaryEvent = .instruction := by
  rw [State.boundaryEvent, State.eventFor, hr, hn, hq]
  rfl

/-- Only an admitted IRQ is taken (R233, R235). -/
theorem State.irqAdmitted_of_boundaryEvent (h : s.boundaryEvent = .irq) : s.sampled.irqAdmitted = true := by
  by_contra hq
  rw [State.boundaryEvent, State.eventFor, if_neg hq] at h
  split at h
  · cases h
  · split at h
    · split at h <;> cases h
    · cases h

/-! ### When an IRQ is admitted -/

/-- With I = 0 an asserted IRQ is admitted (R233). -/
theorem State.irqAdmitted_of_clear (hl : s.boundaryInput.irqLine = true) (hi : s.p.i = false) :
    s.sampled.irqAdmitted = true := by
  simp [State.irqAdmitted, hl, hi]

/-- After an SEI or PLP that found I = 0 an asserted IRQ is admitted (R242; log 9). -/
theorem State.irqAdmitted_of_late (hl : s.boundaryInput.irqLine = true) (hlate : s.irqLate = true) :
    s.sampled.irqAdmitted = true := by
  simp [State.irqAdmitted, hl, hlate]

/-- With I = 1, and no SEI or PLP just executed that found it 0, no IRQ is admitted (R233, R242). -/
theorem State.irqAdmitted_of_masked (hi : s.p.i = true) (hlate : s.irqLate = false) :
    s.sampled.irqAdmitted = false := by
  simp [State.irqAdmitted, hi, hlate]

/-- With I = 1, and no SEI or PLP just executed that found it 0, no IRQ is taken (R233, R242). -/
theorem State.boundaryEvent_ne_irq_of_masked (hi : s.p.i = true) (hlate : s.irqLate = false) :
    s.boundaryEvent ≠ .irq := fun h => by
  have admitted := State.irqAdmitted_of_boundaryEvent h
  rw [State.irqAdmitted_of_masked hi hlate] at admitted
  cases admitted

/-! ### What a step leaves of the fields that R242 needs -/

/-- The instruction comes with no SEI or PLP noted, and with the IRQ that it passes over noted if I = 0 (R242; log 8,
log 9). -/
theorem State.fetchDecode_beginInstruction_irq {u : State} {i : Instr}
    (hf : s.beginInstruction.fetchDecode = .ok (i, u)) :
    u.irqLate = false ∧ u.irqHeld = (s.irqLine && !s.p.i) := by
  rw [State.fetchDecode_shape hf]
  exact ⟨rfl, rfl⟩

@[simp] theorem State.resetStep_irqLate (s : State) : s.resetStep.irqLate = false := by
  simp [State.resetStep, State.resetRegisters]

/-- A step that runs no instruction leaves no SEI or PLP noted (R242; log 9). -/
theorem irqLate_of_step_without_instruction {t : State} (hb : s.boundaryEvent ≠ .instruction)
    (h : step s = .next t) : t.irqLate = false := by
  rcases step_cases h with ⟨-, hr⟩ | ⟨-, rfl⟩ | ⟨-, rfl⟩ | ⟨e, -⟩
  · rcases State.takeReset_cases hr with ⟨-, rfl⟩ | ⟨-, i, u, v, -, -, rfl⟩
    · exact State.resetStep_irqLate _
    · exact State.resetStep_irqLate _
  · rfl
  · rfl
  · exact absurd e hb

/-- SEI and PLP note whether they found I = 0 (R242; log 9). -/
theorem exec_irqLate_of_seiOrPlp {i : Instr} {t : State} (hi : i = .sei ∨ i = .plp) (h : exec i s = .next t) :
    t.irqLate = !s.p.i := by
  rcases hi with rfl | rfl <;> cases h <;> rfl

/-! ### The interrupt entry -/

/-- A boundary that leads to an entry takes it at the vector of its source (R236, R237). -/
theorem step_enter {vector : Word}
    (h : (s.boundaryEvent = .nmi ∧ vector = 0xFFFA#16) ∨ (s.boundaryEvent = .irq ∧ vector = 0xFFFE#16)) :
    step s = .next (s.sampled.enter vector) := by
  rcases h with ⟨hb, rfl⟩ | ⟨hb, rfl⟩ <;> rw [step, hb] <;> rfl

/-- Entering at a vector is taking an exception at PC with bit 4 = 0 (R236). -/
theorem State.enter_entered (s : State) (vector : Word) : Entered s (s.enter vector) s.pc false vector := by
  have taken := s.takeException_entered s.pc false vector
  unfold Entered at taken ⊢
  intro pushed target
  rw [State.enter, taken]

/-- The latch after an entry: cleared by that of the NMI alone (R34, R236). -/
theorem State.enter_nmiPending (s : State) (vector : Word) :
    (s.enter vector).nmiPending = (s.nmiPending && decide (vector ≠ nmiVector)) :=
  s.takeException_nmiPending s.pc false vector

/-- On a RAM stack the entry of a boundary leaves PC and the status byte with bit 4 = 0 (R236). -/
theorem State.enter_framed (stack : StackRam s) (vector : Word) :
    Framed s (s.sampled.enter vector) s.pc false := by
  obtain ⟨top, middle, bottom⟩ := stack
  exact s.sampled.takeException_peek s.pc false vector top middle bottom

/-- Where S points after an exception on a RAM stack lies the status byte, whose bit 4 tells the source (R29, R241). -/
theorem bit4_of_framed {t : State} {ret : Word} {brk : Bool} (sp : t.sp = s.sp - 3)
    (framed : Framed s t ret brk) : (t.peek (stackAddr (t.sp + 1))).getLsbD 4 = brk := by
  obtain ⟨-, -, status⟩ := framed
  have pointed : t.sp + 1 = s.sp - 2 := by rw [sp]; bv_omega
  rw [pointed, status, statusByte_bit4]

/-! ### RESET inside an instruction -/

/-- Scrambling leaves what the map says of an address (R52, R250). -/
theorem State.scramble_stored_iff (l : List Word) (s : State) (a : Word) :
    Stored (State.scramble l s) a ↔ Stored s a := by
  rw [Stored, Stored, State.scramble_kindAt]

/-- A RESET in the middle of an instruction that would complete scrambles the bytes it would store, after the draws that
it would have taken, and resets (R250; log 13). -/
theorem step_resetInside {u v : State} {i : Instr} (hr : s.boundaryInput.resetRequest = true)
    (hin : s.boundaryInput.resetInside = true) (hf : s.sampled.fetchDecode = .ok (i, u))
    (hx : exec i u = .next v) :
    step s = .next (State.scramble (storesTo i u) { s.sampled with draws := v.draws }).resetStep := by
  simp only [step, State.boundaryEvent_of_reset hr, State.takeReset, hin, if_true, State.resetInsideInstruction, hf, hx]

end Sys2Proof.Machine
end

section
/-! The statements about instruction boundaries, interrupts and the abandoned instruction, settled. -/

namespace Sys2Proof.Proofs.Exceptions

open Sys2Proof.Machine

/-- Settles O42: an entry takes an exception from the sampled state, which has the registers and the memory of `s`. -/
theorem interruptEntryResults : Obligations.InterruptEntryResults := by
  unfold Obligations.InterruptEntryResults
  refine ⟨rfl, fun s vector entry => ?_⟩
  obtain ⟨low, high⟩ : 0x0200 ≤ vector.toNat ∧ 0x0200 ≤ (vector + 1).toNat := by
    rcases entry with ⟨-, rfl⟩ | ⟨-, rfl⟩ <;> decide
  refine ⟨s.sampled.enter vector, step_enter entry, s.sampled.enter_entered vector,
    s.sampled.takeException_p s.pc false vector, s.sampled.takeException_sp s.pc false vector,
    s.sampled.takeException_entryKeeps s.pc false vector, fun nmi => ?_, fun irq => ?_,
    fun stack => State.enter_framed stack vector,
    State.takeException_pc (s := s.sampled) s.pc false low high,
    fun k => s.sampled.takeException_peek_other s.pc false vector⟩
  · obtain rfl : vector = 0xFFFA#16 := by simpa [nmi] using entry
    simp [State.enter_nmiPending, nmiVector]
  · obtain rfl : vector = 0xFFFE#16 := by simpa [irq] using entry
    simp [State.enter_nmiPending, nmiVector]

/-- Settles O43: both take an exception, BRK with bit 4 set and the entry with it clear. -/
theorem handlerTellsBrkFromIrq : Obligations.HandlerTellsBrkFromIrq := by
  unfold Obligations.HandlerTellsBrkFromIrq
  refine fun s t stack => ⟨fun brk => ?_, fun irq entered => ?_⟩
  · cases (exec_brk s).symm.trans brk
    exact bit4_of_framed (s.takeException_sp _ true _) (State.takeException_framed stack _ true _)
  · cases (step_enter (.inr ⟨irq, rfl⟩)).symm.trans entered
    exact bit4_of_framed (s.sampled.takeException_sp s.pc false _) (State.enter_framed stack _)

/-- Settles O46, one clause for each source and for what the choice and fairness make of it. -/
theorem boundaryPriority : Obligations.BoundaryPriority := by
  unfold Obligations.BoundaryPriority
  intro s e nmi irq
  refine ⟨State.boundaryEvent_of_reset, fun hr hn taken => ?_, fun hr hn choice held => ?_, fun hr hn hq taken => ?_,
    fun hr hn hq choice held => ?_, State.boundaryEvent_of_no_source⟩
  · rw [State.boundaryEvent_of_nmi hr hn, if_pos (by simpa [e] using taken.symm)]
  · rw [State.boundaryEvent_of_nmi hr hn, if_neg (by simpa [e] using ⟨held, choice⟩)]
  · rw [State.boundaryEvent_of_irq hr hn hq, if_pos (by simpa [e] using taken.symm)]
  · have notHeld : (s.irqHeld && !s.p.i) = false := by
      rcases held with h | h <;> simp [h]
    rw [State.boundaryEvent_of_irq hr hn hq, notHeld]
    simpa [e] using choice

/-- Settles O47: a masked IRQ is not admitted, and only a step that runs SEI or PLP notes what would admit it. -/
theorem irqMaskedByI : Obligations.IrqMaskedByI := by
  unfold Obligations.IrqMaskedByI
  refine ⟨fun s masked notLate => ⟨State.boundaryEvent_ne_irq_of_masked masked notLate, fun hr edge taken => ?_⟩,
    fun s t u i hb hf hsei hplp h => ?_, fun s t hb h => ?_⟩
  · rw [State.boundaryEvent_of_nmi hr (by simp [edge]), taken, Bool.or_true, if_pos rfl]
  · have hx : exec i u = .next t := (step_of_fetchDecode hb hf).symm.trans h
    have late : t.irqLate = false :=
      (exec_irqLate hx hsei hplp).trans (State.fetchDecode_beginInstruction_irq hf).1
    exact ⟨late, fun masked => State.boundaryEvent_ne_irq_of_masked masked late⟩
  · have late := irqLate_of_step_without_instruction hb h
    exact ⟨late, fun masked => State.boundaryEvent_ne_irq_of_masked masked late⟩

/-- Settles O48: the instruction notes whether it found I = 0, which is what admits the IRQ at the next boundary. -/
theorem irqStillAdmittedAfterSeiOrPlp : Obligations.IrqStillAdmittedAfterSeiOrPlp := by
  unfold Obligations.IrqStillAdmittedAfterSeiOrPlp
  intro i s t hi hx line hr hn
  have noted : t.irqLate = !s.p.i := exec_irqLate_of_seiOrPlp hi hx
  have admitted (clear : s.p.i = false) : t.sampled.irqAdmitted = true :=
    State.irqAdmitted_of_late line (by rw [noted, clear]; rfl)
  refine ⟨fun clear choice => ?_, fun clear choice held => ?_, fun set masked => ?_⟩
  · rw [State.boundaryEvent_of_irq hr hn (admitted clear), choice, Bool.or_true, if_pos rfl]
  · rw [State.boundaryEvent_of_irq hr hn (admitted clear), choice, held]
    rfl
  · exact State.boundaryEvent_of_no_source hr hn (State.irqAdmitted_of_masked masked (by rw [noted, set]; rfl))

/-- Settles O50: the instruction begins with the IRQ noted as passed over, and no instruction changes that note. -/
theorem heldIrqTakenWithinTwoBoundaries : Obligations.HeldIrqTakenWithinTwoBoundaries := by
  unfold Obligations.HeldIrqTakenWithinTwoBoundaries
  intro s t hb line clear h line' clear' hr hn
  obtain ⟨i, u, hf, hx⟩ := step_instruction hb h
  have held : t.irqHeld = true := calc
    t.irqHeld = u.irqHeld := exec_irqHeld hx
    _ = (s.boundaryInput.irqLine && !s.p.i) := (State.fetchDecode_beginInstruction_irq hf).2
    _ = true := by rw [line, clear]; rfl
  rw [State.boundaryEvent_of_irq hr hn (State.irqAdmitted_of_clear line' clear'), held, clear']
  rfl

/-- Settles O52: the abandoned stores become separate draws; the reset step draws from there on and leaves memory. -/
theorem abandonedStoresAreFree : Obligations.AbandonedStoresAreFree := by
  unfold Obligations.AbandonedStoresAreFree
  intro s i u v hr hin hf hx
  obtain ⟨-, count, free, apart⟩ := State.scramble_counts (storesTo i u) { s.sampled with draws := v.draws }
  refine ⟨_, count, _, step_resetInside hr hin hf hx, by simp, by simp, by simp, fun a ha ram => ?_, apart,
    fun a ha => ?_, State.resetStep_drawn _, fun h0 h1 => ?_⟩
  · rw [State.resetStep_peek]
    exact free a ha ram
  · rw [State.resetStep_peek]
    exact State.scramble_peek_other _ _ ha
  · rw [State.resetStep_peek, State.resetStep_peek]
    exact State.resetStep_pc _ ((State.scramble_stored_iff _ _ _).2 h0) ((State.scramble_stored_iff _ _ _).2 h1)

end Sys2Proof.Proofs.Exceptions
end
